-- ==== Sys2Proof/Word.lean ====
section
/-! DEFINITION. The words of the KC-48: bytes, addresses, 16-bit numbers and 24-bit frame counts
(spec 11, chapter opening: "A frame count occupies 3 bytes, and a 16-bit number occupies 2"). -/

namespace Sys2Proof

/-- One byte of a line payload or of a panel record. -/
abbrev Byte := BitVec 8

/-- A station address, 0 to 15 (R166). -/
abbrev Addr := BitVec 4

/-- A 16-bit number: cue id, take serial, CRC, flag word. -/
abbrev Word16 := BitVec 16

/-- A frame count as a message carries it, three bytes (R193). -/
abbrev Count24 := BitVec 24

end Sys2Proof
end

