-- ==== Sys2Proof/Syntax.lean ====
section
/-! DEFINITION. The commands of the KC-48, one constructor of `Instr` per row of the step table
(spec/opcode_table.json), and the messages, labels and codes they carry (spec 11, R193 and R194). -/

namespace Sys2Proof

/-- The level of a four-level strap pin (R166). -/
inductive Level where
  | l0 | l1 | l2 | l3
deriving DecidableEq, Repr

/-- The levels sensed on the six strap pins at a reset (R166); `hold` is true for high. -/
structure StrapLevels where
  addr1   : Level
  addr0   : Level
  role    : Level
  room    : Level
  profile : Level
  hold    : Bool
deriving DecidableEq, Repr

/-- The four roles of a station (spec 00 section 0.2, R166). -/
inductive Role where
  | booth | recorder0 | recorder1 | desk
deriving DecidableEq, Repr

/-- The four station states (R167). -/
inductive StationState where
  | held | joining | active | muted
deriving DecidableEq, Repr

/-- The four raster profiles (R2). -/
inductive Profile where
  | p0 | p1 | p2 | p3
deriving DecidableEq, Repr

/-- The lock states of the reference unit (spec 01 section 1.7). -/
inductive Lock where
  | unlocked | acquiring | locked | holdover
deriving DecidableEq, Repr

/-- The transport states (R21). -/
inductive Transport where
  | noRef | settling | stopped | play | vari | shuttle | reverse
deriving DecidableEq, Repr

/-- Deny reasons of an ANSWER (R132). -/
inductive DenyReason where
  | overlap | full | tooLate | badRange
deriving DecidableEq, Repr

/-- Reasons of a RELEASE (R123). -/
inductive ReleaseReason where
  | done | abort | late | limit | evict | reset
deriving DecidableEq, Repr

/-- Reasons of a GATE CLOSED or GATE CUT (R135); `ended` is END. -/
inductive GateReason where
  | ended | release | abort | transport | refLost | peerLost | reset
deriving DecidableEq, Repr

/-- Results of a REPLY (R193). -/
inductive ReplyResult where
  | accepted | clamped | busy | badTime | badRange | badTrack | badSlot | wrongRole | notFound | inFlight
deriving DecidableEq, Repr

/-- The kinds a REPLY answers (R193). -/
inductive AnsweredKind where
  | load | clear | select | mark | digest
deriving DecidableEq, Repr

/-- Results of a take (spec 05 section 5.1). -/
inductive TakeResult where
  | inFlight | recorded | notRecorded | cut | aborted
deriving DecidableEq, Repr

/-- A label as a message carries it: four binary bytes (R193). -/
structure Label where
  hours   : Byte
  minutes : Byte
  seconds : Byte
  frames  : Byte
deriving DecidableEq, Repr

/-- BEACON fields (R172, R194). -/
structure BeaconMsg where
  role      : Role
  room      : Byte
  state     : StationState
  lock      : Lock
  transport : Transport
  position  : Count24
deriving DecidableEq, Repr

/-- CLAIM fields (R115, R194). -/
structure ClaimMsg where
  track   : Byte
  claimNo : Byte
  room    : Byte
  cueId   : Word16
  f1      : Count24
  f2      : Count24
  resend  : Bool
deriving DecidableEq, Repr

/-- The decision of an ANSWER with what follows it: a DENY OVERLAP names the conflicting claimant (R132). -/
inductive Decision where
  | grant
  | denyOverlap (claimant : Byte)
  | denyFull
  | denyTooLate
  | denyBadRange
deriving DecidableEq, Repr

/-- ANSWER fields (R132, R194). -/
structure AnswerMsg where
  claimNo  : Byte
  track    : Byte
  decision : Decision
deriving DecidableEq, Repr

/-- RELEASE fields (R123, R194). -/
structure ReleaseMsg where
  track   : Byte
  claimNo : Byte
  reason  : ReleaseReason
deriving DecidableEq, Repr

/-- The event of a GATE; the reason is absent on OPEN (R135). -/
inductive GateEvent where
  | opened
  | closed (reason : GateReason)
  | cut (reason : GateReason)
deriving DecidableEq, Repr

/-- GATE fields (R135, R194). -/
structure GateMsg where
  track    : Byte
  event    : GateEvent
  claimant : Byte
  claimNo  : Byte
  room     : Byte
  position : Count24
deriving DecidableEq, Repr

/-- The room of an ABORT: one room, or ALL (R193). -/
inductive AbortRoom where
  | room (r : BitVec 2)
  | all
deriving DecidableEq, Repr

/-- LOAD fields as received, before any clamping (spec 02 section 2.3, R194). -/
structure LoadMsg where
  slot      : Byte
  cueId     : Word16
  inLabel   : Label
  outLabel  : Label
  streamer  : Byte
  beepCount : Byte
  beepDur   : Byte
  track     : Byte
  pre       : Byte
  post      : Byte
  textLen   : Byte
  text      : List Byte
deriving DecidableEq, Repr

/-- The slot range of a CLEAR or SELECT (R36). -/
structure RangeMsg where
  first : Byte
  last  : Byte
deriving DecidableEq, Repr

/-- DIGEST fields (R40). -/
structure DigestMsg where
  first : Byte
  count : Byte
deriving DecidableEq, Repr

/-- MARK fields (R108). -/
structure MarkMsg where
  slot   : Byte
  take   : Byte
  circle : Bool
deriving DecidableEq, Repr

/-- REPLY fields; the clamped-fields set stands on CLAMPED, CRC and used count on DIGEST ACCEPTED (R29). -/
structure ReplyMsg where
  kind    : AnsweredKind
  slot    : Byte
  result  : ReplyResult
  clamped : Option Byte
  digest  : Option (Word16 × Byte)
deriving DecidableEq, Repr

/-- TAKE_NOTE fields (R102, R194). -/
structure TakeNoteMsg where
  slot     : Byte
  cueId    : Word16
  take     : Byte
  serial   : Word16
  result   : TakeResult
  offSpeed : Bool
  start    : Count24
  stop     : Count24
deriving DecidableEq, Repr

/-- A message of one of the thirteen kinds (spec 08 section 8.3). -/
inductive Message where
  | beacon (m : BeaconMsg)
  | claim (m : ClaimMsg)
  | answer (m : AnswerMsg)
  | release (m : ReleaseMsg)
  | gate (m : GateMsg)
  | abort (room : AbortRoom)
  | load (m : LoadMsg)
  | clear (m : RangeMsg)
  | select (m : RangeMsg) (on : Bool)
  | mark (m : MarkMsg)
  | digest (m : DigestMsg)
  | reply (m : ReplyMsg)
  | takeNote (m : TakeNoteMsg)
deriving DecidableEq, Repr

/-- What a delivered frame's header says beside its kind: destination, source and broadcast flag (R192). -/
structure FrameHead where
  dest      : Addr
  source    : Addr
  broadcast : Bool
deriving DecidableEq, Repr

/-- Time on the cue line: bit times without a dominant half, and whether a dominant half has then come, with which the
line turns busy (R145, R154). -/
structure LineTime where
  quiet : Nat
  busy  : Bool
deriving DecidableEq, Repr

/-- The 44 steps of the station, one constructor per row of spec/opcode_table.json. The table names no
operands; they are the data each rule says the step acts on (notes/assumptions/3.md). -/
inductive Instr where
  /-- HARDWARE_RESET with the strap levels sensed when RESETn is released (R178). -/
  | hardwareReset (straps : StrapLevels)
  /-- STATUS (R181). -/
  | status
  /-- READ with its selector and index bytes (R182). -/
  | read (selector index : Byte)
  /-- POP_INBOX (R183). -/
  | popInbox
  /-- SEND with its kind and destination bytes and its payload (R184). -/
  | send (kind dest : Byte) (payload : List Byte)
  /-- ACK_FLAGS with its flag word (R186). -/
  | ackFlags (word : Word16)
  /-- SET_MASK with its mask word (R187). -/
  | setMask (word : Word16)
  /-- RESET with level RESTART and the strap levels sensed when it is taken (R178). -/
  | resetRestart (straps : StrapLevels)
  /-- RESET with level CLEAR (R178). -/
  | resetClear
  /-- RESET with level ENGINE (R188). -/
  | resetEngine
  /-- RELEASE_HOLD (R168). -/
  | releaseHold
  /-- SWEEP with its on/off byte (R79). -/
  | sweep (onOff : Byte)
  /-- A request answered BAD_REQUEST for its code, or a RESET for its level; the bytes after the code (R180, R188). -/
  | badRequest (code : Byte) (rest : List Byte)
  /-- Select deasserted after these bytes, before the request's last byte (R180). -/
  | transactionAbandoned (received : List Byte)
  /-- A line pulse alone on its pixel clock edge (R3). -/
  | linePulse
  /-- A frame pulse; `withLine` says that a line pulse falls on the same pixel clock edge (R1, R4). -/
  | framePulse (withLine : Bool)
  /-- An edge of the position bit clock with the bit it samples (R7). -/
  | positionBit (bit : Bool)
  /-- A tick expiry (R18). -/
  | tick
  /-- The quiet tick count has reached 10 (R18). -/
  | lossByTime
  /-- The answer timer of the PENDING claim of the entry of this slot has reached 0 (R116). -/
  | answerTimerExpiry (slot : Byte)
  /-- The join timer has reached 0 (R169). -/
  | joinTimerExpiry
  /-- The beacon timer has reached 0 (R171). -/
  | beaconTimerExpiry
  /-- The ticks since heard of this present peer have reached 200 (R175). -/
  | peerLoss (addr : Addr)
  /-- The check byte of a frame arrives, with the 24 header bits as received (R148); bit i is data bit i of R147. -/
  | headerReceived (header : BitVec 24) (check : Byte)
  /-- A busy period of these bits ends before the last CRC bit (R149). -/
  | cutShortFrame (bits : List Bool)
  /-- A good BEACON frame (R174). -/
  | beacon (h : FrameHead) (m : BeaconMsg)
  /-- A good CLAIM frame (R130). -/
  | claim (h : FrameHead) (m : ClaimMsg)
  /-- A good ANSWER frame (R118). -/
  | answer (h : FrameHead) (m : AnswerMsg)
  /-- A good RELEASE frame (R137). -/
  | release (h : FrameHead) (m : ReleaseMsg)
  /-- A good GATE frame (R87). -/
  | gate (h : FrameHead) (m : GateMsg)
  /-- A good ABORT frame (R66). -/
  | abort (h : FrameHead) (room : AbortRoom)
  /-- A good LOAD frame (R31). -/
  | load (h : FrameHead) (m : LoadMsg)
  /-- A good CLEAR frame (R37). -/
  | clear (h : FrameHead) (m : RangeMsg)
  /-- A good SELECT frame with on/off set to on (R38). -/
  | selectOn (h : FrameHead) (m : RangeMsg)
  /-- A good SELECT frame with on/off set to off (R39). -/
  | selectOff (h : FrameHead) (m : RangeMsg)
  /-- A good DIGEST frame (R40). -/
  | digest (h : FrameHead) (m : DigestMsg)
  /-- A good MARK frame (R108). -/
  | mark (h : FrameHead) (m : MarkMsg)
  /-- A good REPLY frame (R161). -/
  | reply (h : FrameHead) (m : ReplyMsg)
  /-- A good TAKE_NOTE frame (R110). -/
  | takeNote (h : FrameHead) (m : TakeNoteMsg)
  /-- So much further time has passed on the cue line, and the station may begin an attempt (R145, R154). -/
  | attemptStart (time : LineTime)
  /-- The station sees dominant where it drives recessive (R155). -/
  | collision
  /-- The last CRC bit of the attempt is driven without a collision (R156). -/
  | frameSent
  /-- A whole frame with this good header (as corrected), payload and CRC fails a check (R149, R150). -/
  | frameJudgedBad (header : BitVec 24) (payload : List Byte) (crc : Word16)
  /-- Select deasserted after a request has been taken (R180). -/
  | transactionEnd
deriving DecidableEq, Repr

end Sys2Proof
end

