-- ==== Sys2Proof/WellFormed.lean ====
section
/-! DEFINITION. Which commands can be given to the station at all: the operand forms the formats of
spec 11 allow. The meanings are total and do not rest on these checks. -/

namespace Sys2Proof

/-- The number of bytes after the code that a request takes, where the code is one of the nine and the length
byte of a SEND has arrived (R195). -/
def requestLength : List Byte → Option Nat
  | 0x01#8 :: _ => some 0
  | 0x02#8 :: _ => some 2
  | 0x03#8 :: _ => some 0
  | 0x04#8 :: _ :: _ :: n :: _ => some (3 + n.toNat)
  | 0x05#8 :: _ => some 2
  | 0x06#8 :: _ => some 2
  | 0x07#8 :: _ => some 1
  | 0x08#8 :: _ => some 0
  | 0x09#8 :: _ => some 1
  | _ => none

/-- The nine request codes (R195). -/
def isRequestCode (code : Byte) : Bool := decide (1 ≤ code.toNat ∧ code.toNat ≤ 9)

/-- A SEND carries at most 255 payload bytes, since its length is one byte (R195). -/
def sendWf (payload : List Byte) : Bool := decide (payload.length ≤ 255)

/-- A request that is answered BAD_REQUEST: an unknown code, or a RESET whose level is none of the three. -/
def badRequestWf (code : Byte) (rest : List Byte) : Bool :=
  !isRequestCode code ||
    (code == 0x07#8 && match rest with
      | [level] => decide (level.toNat = 0 ∨ 3 < level.toNat)
      | _ => false)

/-- An abandoned transaction ends before the request's last byte (R180). -/
def abandonedWf (received : List Byte) : Bool :=
  match received with
  | [] => true
  | code :: rest =>
    isRequestCode code && match requestLength received with
      | some n => decide (rest.length < n)
      | none => decide (rest.length < 3)

/-- A LOAD carries as many text bytes as its text length, or 14 where that is above 14 (R150, R194). -/
def LoadMsg.wf (m : LoadMsg) : Bool := decide (m.text.length = min m.textLen.toNat 14)

/-- The optional fields of a REPLY stand where its result and answered kind call for them (R29, R194). -/
def ReplyMsg.wf (m : ReplyMsg) : Bool :=
  (m.clamped.isSome == decide (m.result = .clamped)) &&
  (m.digest.isSome == decide (m.kind = .digest ∧ m.result = .accepted))

/-- A message whose payload can be written by its layout. -/
def Message.wf : Message → Bool
  | .load m => m.wf
  | .reply m => m.wf
  | _ => true

/-- The payload length that a header names (R192: bits 5 to 0 of header byte 2). -/
def headerLength (header : BitVec 24) : Nat := (header.extractLsb' 16 6).toNat

/-- A judged frame has the payload its header's length calls for, and its header passed the must-be-zero test. -/
def judgedWf (header : BitVec 24) (payload : List Byte) : Bool :=
  decide (payload.length = headerLength header ∧ header.extractLsb' 22 2 = 0#2)

/-- A busy period has at least one bit, and a frame is at most 56 + 8 * 63 bits (spec 08 section 8.2). -/
def cutShortWf (bits : List Bool) : Bool := decide (0 < bits.length ∧ bits.length < 56 + 8 * 63)

/-- The well-formed commands. -/
def Instr.wf : Instr → Bool
  | .send _ _ payload => sendWf payload
  | .badRequest code rest => badRequestWf code rest
  | .transactionAbandoned received => abandonedWf received
  | .answerTimerExpiry slot => decide (slot.toNat ≤ 127)
  | .cutShortFrame bits => cutShortWf bits
  | .load _ m => m.wf
  | .reply _ m => m.wf
  | .frameJudgedBad header payload _ => judgedWf header payload
  | _ => true

end Sys2Proof
end

