-- ==== Sys2Proof/Decode.lean ====
section
/-! DEFINITION. The step table gives none of its rows any bits, so no word of it spells a command. The requests of the
panel port have bytes of their own (R195): they are read and written here. -/

namespace Sys2Proof

/-- The command a word of the table spells: none, because no row of spec/opcode_table.json has bits. -/
def decodeTableWord (_nbits _w : Nat) : Option Instr := none

/-! ### Panel requests (R180, R188, R195, R198) -/

/-- The RESET of a level byte: RESTART 1, CLEAR 2, ENGINE 3; any other is a bad request (R188, R195). -/
def resetOf (sensed : StrapLevels) (level : Byte) : Instr :=
  match level.toNat with
  | 1 => .resetRestart sensed
  | 2 => .resetClear
  | 3 => .resetEngine
  | _ => .badRequest 0x07#8 [level]

/-- The request of a known code with the parameter bytes that have arrived; none until the last has (R195). -/
def knownRequest (sensed : StrapLevels) (code : Byte) (rest : List Byte) : Option Instr :=
  match code.toNat, rest with
  | 1, [] => some .status
  | 2, [selector, index] => some (.read selector index)
  | 3, [] => some .popInbox
  | 4, kind :: dest :: n :: payload => if payload.length = n.toNat then some (.send kind dest payload) else none
  | 5, [hi, lo] => some (.ackFlags (hi ++ lo))
  | 6, [hi, lo] => some (.setMask (hi ++ lo))
  | 7, [level] => some (resetOf sensed level)
  | 8, [] => some .releaseHold
  | 9, [onOff] => some (.sweep onOff)
  | _, _ => none

/-- The request that these bytes make, taken as its last byte arrives; none while more are to come. The straps sensed
are the world's, for a RESTART (R178; notes/assumptions/3.md). -/
def requestOf (sensed : StrapLevels) : List Byte → Option Instr
  | [] => none
  | code :: rest => if isRequestCode code then knownRequest sensed code rest else some (.badRequest code rest)

/-- A two-byte word, high byte first. -/
def wordBytes (w : Word16) : List Byte := [w.extractLsb' 8 8, w.extractLsb' 0 8]

/-- The bytes of a request, none for a command that no request gives (R195). -/
def requestBytes : Instr → Option (List Byte)
  | .status => some [0x01#8]
  | .read selector index => some [0x02#8, selector, index]
  | .popInbox => some [0x03#8]
  | .send kind dest payload => some ([0x04#8, kind, dest, BitVec.ofNat 8 payload.length] ++ payload)
  | .ackFlags word => some (0x05#8 :: wordBytes word)
  | .setMask word => some (0x06#8 :: wordBytes word)
  | .resetRestart _ => some [0x07#8, 1#8]
  | .resetClear => some [0x07#8, 2#8]
  | .resetEngine => some [0x07#8, 3#8]
  | .releaseHold => some [0x08#8]
  | .sweep onOff => some [0x09#8, onOff]
  | .badRequest code rest => some (code :: rest)
  | .hardwareReset _ => none
  | .transactionAbandoned _ => none
  | .linePulse => none
  | .framePulse _ => none
  | .positionBit _ => none
  | .tick => none
  | .lossByTime => none
  | .answerTimerExpiry _ => none
  | .joinTimerExpiry => none
  | .beaconTimerExpiry => none
  | .peerLoss _ => none
  | .headerReceived _ _ => none
  | .cutShortFrame _ => none
  | .beacon _ _ => none
  | .claim _ _ => none
  | .answer _ _ => none
  | .release _ _ => none
  | .gate _ _ => none
  | .abort _ _ => none
  | .load _ _ => none
  | .clear _ _ => none
  | .selectOn _ _ => none
  | .selectOff _ _ => none
  | .digest _ _ => none
  | .mark _ _ => none
  | .reply _ _ => none
  | .takeNote _ _ => none
  | .attemptStart _ => none
  | .collision => none
  | .frameSent => none
  | .frameJudgedBad _ _ _ => none
  | .transactionEnd => none

/-- The bytes that the bits sampled on PDI make, most significant bit first, eight cycles to a byte; the bits of a byte
not yet whole wait (R198). -/
def bytesOfBits : List Bool → List Byte
  | b7 :: b6 :: b5 :: b4 :: b3 :: b2 :: b1 :: b0 :: rest =>
    BitVec.ofBoolListBE [b7, b6, b5, b4, b3, b2, b1, b0] :: bytesOfBits rest
  | _ => []

/-- The request that the bits sampled on PDI since select was asserted make (R180, R198). -/
def requestOfBits (sensed : StrapLevels) (bits : List Bool) : Option Instr :=
  requestOf sensed (bytesOfBits bits)

end Sys2Proof
end

