-- ==== Sys2Proof/Config.lean ====
section
/-! DEFINITION. What the spec leaves to the board around the part: the levels tied to the strap pins.
`State.reset` is the station after a hardware reset with these levels; HARDWARE_RESET and RESET_RESTART
carry the levels they sense. -/

namespace Sys2Proof.Config

/-- DESIGN CHOICE (unsafe, notes/assumptions/1.md): every four-level strap at L0 and HOLD low, which is
address 0, BOOTH, room 0, profile P0, starting in JOINING. -/
def resetStraps : StrapLevels :=
  { addr1 := .l0, addr0 := .l0, role := .l0, room := .l0, profile := .l0, hold := false }

end Sys2Proof.Config
end

