-- ==== Sys2Proof/Machine/State.lean ====
section
/-! DEFINITION. Every piece of state the spec gives the station, as plain data, and the station right
after reset. One structure per block (spec 00 section 0.3). Values the spec computes from others (raster
line, sub-frame count, INBOX_READY, ATTN, the state of a reservation) are computed, not stored. -/

namespace Sys2Proof.Machine

/-- Why the station would stop. The spec names no condition that stops it (notes/assumptions/21.md). -/
inductive Fault where
  /-- Raised by nobody: every rule of the spec gives every step a next state. Safe. -/
  | halted
deriving DecidableEq, Repr

/-- Why a command would have no meaning. -/
inductive Refusal where
  /-- A command whose arm of `exec` has no meaning yet. Raised by nobody: every row has its meaning. Safe. -/
  | notModelled (mnemonic : String)
deriving DecidableEq, Repr

/-- The latched straps (R166); `hold` is true for high. -/
structure Straps where
  address : Addr
  role    : Role
  room    : BitVec 2
  profile : Profile
  hold    : Bool
deriving DecidableEq, Repr

/-- The reference unit (spec 01). `shiftBits` holds bit i of the word in arrival order; `frameWord` is the
frame count of the valid word taken in the frame under way; `history` is oldest first. -/
structure RefUnit where
  lineCounter   : Nat
  shiftBits     : BitVec 32
  shiftCount    : Nat
  frameWord     : Option Nat
  lock          : Lock
  runCount      : Nat
  holdoverCount : Nat
  synthCount    : Nat
  quietTicks    : Nat
  position      : Nat
  history       : List Int
  transport     : Transport
deriving DecidableEq, Repr

/-- A LOADED cue slot (spec 02 section 2.1); an EMPTY slot is `none` in the table. `cueIn` is C, `cueOut` is E. -/
structure Cue where
  selected   : Bool
  cueId      : Word16
  inLabel    : Label
  outLabel   : Label
  cueIn      : Nat
  cueOut     : Nat
  streamer   : Byte
  beepCount  : Byte
  beepDur    : Byte
  track      : Option Byte
  pre        : Byte
  post       : Byte
  text       : List Byte
  takeCount  : Nat
  lastResult : Option TakeResult
  circled    : Nat
deriving DecidableEq, Repr

/-- The nine kinds of mark in the order of R46, which is the coincidence order of R47. -/
inductive MarkKind where
  | windowOpen | beep3 | beep2 | beep1 | streamerStart | punchIn | cueIn | cueOut | punchOut
deriving DecidableEq, Repr

/-- The marks of an entry (R46). -/
structure Marks where
  windowOpen    : Nat
  beep3         : Option Nat
  beep2         : Option Nat
  beep1         : Option Nat
  streamerStart : Option Nat
  punchIn       : Nat
  cueIn         : Nat
  cueOut        : Nat
  punchOut      : Nat
deriving DecidableEq, Repr

/-- The phase of an entry (R48). -/
inductive Phase where
  | waiting | standby | streaming | speaking | tail
deriving DecidableEq, Repr

/-- The state of an entry's claim (spec 06 section 6.1). -/
inductive ClaimState where
  | none | pending | granted | denied | noRecorder | released
deriving DecidableEq, Repr

/-- The state of an entry's take in the current pass (spec 03 section 3.1). -/
inductive TakeState where
  | idle | late | running | ended | skipped | limit
deriving DecidableEq, Repr

/-- A lookahead entry (spec 03 section 3.1, spec 06 section 6.1). Bit i of `crossed` is the flag of the
i-th kind of `MarkKind`. `answerTimer` and `resent` mean something while the claim is PENDING. -/
structure Entry where
  slot         : Nat
  key          : Int
  marks        : Marks
  phase        : Phase
  crossed      : BitVec 9
  stoodDown    : Bool
  claim        : ClaimState
  claimNo      : Option Byte
  denyReason   : Option DenyReason
  answerTimer  : Nat
  resent       : Bool
  take         : TakeState
  serial       : Option Word16
  gateSeenOpen : Bool
  gateCut      : Bool
deriving DecidableEq, Repr

/-- The state driven on the LIGHT pair (R84). -/
inductive Light where
  | off | standby | cue | quiet
deriving DecidableEq, Repr

/-- A beep interval: it covers [mark, mark + duration) (R81). -/
structure BeepInterval where
  slot     : Nat
  mark     : Nat
  duration : Nat
deriving DecidableEq, Repr

/-- The cue outputs (spec 04). `resumed` says that drawing has resumed since keying last ceased or the sweep was
turned off (R73, R79). `keyed` holds the column ranges, end excluded, fixed for the raster line under way (R72). -/
structure Outputs where
  drawn        : List Nat
  resumed      : Bool
  flash        : Bool
  beeps        : List BeepInterval
  beep         : Bool
  light        : Light
  sweep        : Bool
  sweepCounter : Nat
  gateView     : List (Addr × Byte)
  keyed        : List (Nat × Nat)
deriving DecidableEq, Repr

/-- A booth's take log record (spec 05 section 5.1). -/
structure LogRecord where
  serial   : Word16
  slot     : Nat
  cueId    : Word16
  take     : Nat
  result   : TakeResult
  offSpeed : Bool
  start    : Nat
  stop     : Option Nat
  circled  : Bool
deriving DecidableEq, Repr

/-- A take journal record with its three before-images (spec 05 section 5.1). -/
structure JournalRecord where
  serial     : Word16
  slot       : Nat
  takeCount  : Nat
  lastResult : Option TakeResult
  displaced  : Option LogRecord
deriving DecidableEq, Repr

/-- A record of a desk's collected log (R110). -/
structure NoteRecord where
  source : Addr
  note   : TakeNoteMsg
deriving DecidableEq, Repr

/-- The take unit (spec 05); logs are oldest first. -/
structure TakeUnit where
  serial  : Word16
  log     : List LogRecord
  journal : List JournalRecord
  deskLog : List NoteRecord
deriving DecidableEq, Repr

/-- A reservation (R127). It is OPEN where its track names it, GRANTED otherwise. -/
structure Reservation where
  claimant : Addr
  claimNo  : Byte
  room     : Byte
  cueId    : Word16
  f1       : Nat
  f2       : Nat
deriving DecidableEq, Repr

/-- An own track of a recorder: the reservation its OPEN gate names, and its table in table order (R127).
The gate is OPEN exactly where a reservation is named. -/
structure Track where
  named : Option Reservation
  table : List Reservation
deriving DecidableEq, Repr

/-- What a queued message holds: a BEACON is filled at each attempt, every other payload is fixed (R146). -/
inductive TxContent where
  | beacon
  | fixed (dest : Addr) (m : Message)
deriving DecidableEq, Repr

/-- Who gave a queued message (R158). -/
inductive Origin where
  | internal | panel
deriving DecidableEq, Repr

/-- A record of the transmit queue (R158). -/
structure TxMsg where
  content      : TxContent
  origin       : Origin
  attempts     : Nat
  extra        : Nat
  repeatMark   : Bool
  underAttempt : Bool
deriving DecidableEq, Repr

/-- How far the receiver is with the frame on the line: none has begun, one has begun and its header is coming, with the
header that the station itself drives where it began an attempt, through a collision too (R155, R176), a good header
taken (as corrected), the rest of a discarded frame ignored (R148, R149), or a frame abandoned at a reset, with its
header where the check byte had arrived (R165). -/
inductive Receiver where
  | awaiting
  | incoming (own : Option (BitVec 24))
  | taking (header : BitVec 24)
  | ignoring
  | abandoned (header : Option (BitVec 24))
deriving DecidableEq, Repr

/-- A REPLY in the inbox with the address it came from (R161). -/
structure InboxItem where
  source : Addr
  reply  : ReplyMsg
deriving DecidableEq, Repr

/-- The line unit (spec 08). `attempt` holds the bytes of the frame under attempt; `idle` is the idle count of the
line, none while the line is busy (R145, R154). -/
structure LineUnit where
  queue      : List TxMsg
  attempt    : Option (List Byte)
  receiver   : Receiver
  idle       : Option Nat
  inbox      : List InboxItem
  hdrFixed   : Nat
  hdrBad     : Nat
  crcBad     : Nat
  collisions : Nat
  sendFail   : Nat
deriving DecidableEq, Repr

/-- A peer table entry; the optional fields all come from the last BEACON taken (R174). -/
structure Peer where
  present : Bool
  info    : Option BeaconMsg
  ticks   : Nat
deriving DecidableEq, Repr

/-- The station unit (spec 09), the straps apart. A timer that does not run stands at 0. -/
structure StationUnit where
  state       : StationState
  joinTimer   : Nat
  beaconTimer : Nat
  prng        : Word16
  peers       : List Peer
deriving DecidableEq, Repr

/-- Where the panel port stands in the current exchange (spec 10). A request passes `receiving` inside its
own step (notes/assumptions/7.md). -/
inductive Transaction where
  | idle | receiving | answering
deriving DecidableEq, Repr

/-- Answer statuses of the panel port (R180, R195). -/
inductive Status where
  | ok | empty | badIndex | badRequest | notHeld | queued | queueFull | notAllowed | notActive | badLength
deriving DecidableEq, Repr

/-- An answer record: its status and its body bytes (R195). -/
structure Answer where
  status : Status
  body   : List Byte
deriving DecidableEq, Repr

/-- The panel port (spec 10); bit positions of `sticky` and `mask` are those of R195. -/
structure Port where
  transaction : Transaction
  answer      : Option Answer
  sticky      : BitVec 13
  mask        : BitVec 14
deriving DecidableEq, Repr

/-- The station. `cues` has the 128 slots, `tracks` the eight own tracks, `entries` stand in entry order;
`pending` is the model's queue of commands waiting. -/
structure State where
  straps       : Straps
  ref          : RefUnit
  cues         : List (Option Cue)
  entries      : List Entry
  out          : Outputs
  takes        : TakeUnit
  claimCounter : Byte
  tracks       : List Track
  line         : LineUnit
  station      : StationUnit
  port         : Port
  pending      : List Instr
deriving DecidableEq, Repr

/-- The station right after a hardware reset with the straps of `Config.resetStraps`: the values of R24, R44, R70,
R92, R112, R126, R144, R165, R178 and R190. HOLD is low, so the state is JOINING with the join timer at 150
(R167), and the pseudorandom register is 0xACE1 for address 0 (R173). -/
def State.reset : State :=
  { straps := { address := 0#4, role := .booth, room := 0#2, profile := .p0, hold := false }
    ref :=
      { lineCounter := 0, shiftBits := 0#32, shiftCount := 0, frameWord := none, lock := .unlocked, runCount := 0,
        holdoverCount := 0, synthCount := 0, quietTicks := 0, position := 0, history := [], transport := .noRef }
    cues := List.replicate 128 none
    entries := []
    out :=
      { drawn := [], resumed := false, flash := false, beeps := [], beep := false, light := .off, sweep := false,
        sweepCounter := 0, gateView := [], keyed := [] }
    takes := { serial := 0#16, log := [], journal := [], deskLog := [] }
    claimCounter := 0#8
    tracks := List.replicate 8 { named := none, table := [] }
    line :=
      { queue := [], attempt := none, receiver := .awaiting, idle := some 0, inbox := [], hdrFixed := 0, hdrBad := 0, crcBad := 0,
        collisions := 0, sendFail := 0 }
    station :=
      { state := .joining, joinTimer := 150, beaconTimer := 0, prng := 0xACE1#16,
        peers := List.replicate 16 { present := false, info := none, ticks := 0 } }
    port := { transaction := .idle, answer := none, sticky := 1#13, mask := 0#14 }
    pending := [] }

end Sys2Proof.Machine
end

