-- ==== Sys2Proof/Machine/Operands.lean ====
section
/-! DEFINITION. How the operands are read: bytes and numbers, the raster profiles (R2, R71), labels and
frame counts (R9 to R11), modular distance (R12), the position word (R8, R191) and the straps (R166). -/

namespace Sys2Proof.Machine

/-! ### Bytes -/

/-- The byte of a number below 256. -/
def byte (n : Nat) : Byte := BitVec.ofNat 8 n

/-- A 16-bit number, high byte first. -/
def bytes16 (x : Word16) : List Byte := [x.extractLsb' 8 8, x.extractLsb' 0 8]

/-- A frame count, high byte first. -/
def bytes24 (x : Count24) : List Byte := [x.extractLsb' 16 8, x.extractLsb' 8 8, x.extractLsb' 0 8]

/-- The bytes of a position held as a number. -/
def bytesCount (n : Nat) : List Byte := bytes24 (BitVec.ofNat 24 n)

/-- The number two bytes spell, high byte first. -/
def word16 (hi lo : Byte) : Word16 := hi ++ lo

/-- The frame count three bytes spell, high byte first. -/
def count24 (hi mid lo : Byte) : Count24 := hi ++ mid ++ lo

/-- The byte of a flag: 0 or 1. -/
def byteBool (b : Bool) : Byte := if b then 1#8 else 0#8

/-- The bits of a byte, most significant first (R145, R198). -/
def bitsOfByte (b : Byte) : List Bool :=
  [b.getLsbD 7, b.getLsbD 6, b.getLsbD 5, b.getLsbD 4, b.getLsbD 3, b.getLsbD 2, b.getLsbD 1, b.getLsbD 0]

/-- The byte eight bits spell, most significant first; missing bits read as 0. -/
def byteOfBits (bits : List Bool) : Byte :=
  (bits.take 8).foldl (fun acc b => (acc <<< 1) ||| (if b then 1#8 else 0#8)) 0#8

/-! ### The raster profiles (R2, R71) -/

/-- Lines per frame. -/
def linesOf : Profile → Nat
  | .p0 => 525
  | .p1 => 625
  | .p2 => 1125
  | .p3 => 1125

/-- The nominal frame rate F. -/
def fpsOf : Profile → Nat
  | .p0 => 30
  | .p1 => 25
  | .p2 => 24
  | .p3 => 30

/-- Whether labels are drop-frame. -/
def dropOf : Profile → Bool
  | .p0 => true
  | .p1 => false
  | .p2 => false
  | .p3 => false

/-- The day length D. -/
def dayOf : Profile → Nat
  | .p0 => 2589408
  | .p1 => 2160000
  | .p2 => 2073600
  | .p3 => 2592000

/-- The first active raster line. -/
def firstActiveOf : Profile → Nat
  | .p0 => 22
  | .p1 => 23
  | .p2 => 41
  | .p3 => 41

/-- The last active raster line. -/
def lastActiveOf : Profile → Nat
  | .p0 => 501
  | .p1 => 598
  | .p2 => 1120
  | .p3 => 1120

/-- Hact, the columns W of an active line. -/
def widthOf : Profile → Nat
  | .p0 => 720
  | .p1 => 720
  | .p2 => 1920
  | .p3 => 1920

/-- The bar width Bw. -/
def barWidthOf : Profile → Nat
  | .p0 => 8
  | .p1 => 8
  | .p2 => 20
  | .p3 => 20

/-- The pixel clocks of a raster line, Htotal. -/
def htotalOf : Profile → Nat
  | .p0 => 858
  | .p1 => 864
  | .p2 => 2750
  | .p3 => 2200

/-- Hsync. -/
def hsyncOf : Profile → Nat
  | .p0 => 62
  | .p1 => 63
  | .p2 => 44
  | .p3 => 44

/-- Hback. -/
def hbackOf : Profile → Nat
  | .p0 => 60
  | .p1 => 69
  | .p2 => 148
  | .p3 => 148

/-- Hfront. -/
def hfrontOf : Profile → Nat
  | .p0 => 16
  | .p1 => 12
  | .p2 => 638
  | .p3 => 88

/-- The code of a profile in the status record, 0 to 3 (R196). -/
def profileCode : Profile → Nat
  | .p0 => 0
  | .p1 => 1
  | .p2 => 2
  | .p3 => 3

/-! ### Straps (R166) -/

/-- A strap level read as 0 to 3. -/
def levelCode : Level → Nat
  | .l0 => 0
  | .l1 => 1
  | .l2 => 2
  | .l3 => 3

/-- The role the ROLE strap gives. -/
def roleOfLevel : Level → Role
  | .l0 => .booth
  | .l1 => .recorder0
  | .l2 => .recorder1
  | .l3 => .desk

/-- The profile the PROFILE strap gives. -/
def profileOfLevel : Level → Profile
  | .l0 => .p0
  | .l1 => .p1
  | .l2 => .p2
  | .l3 => .p3

/-- The identity that sensed strap levels give (R166): the address is ADDR1 × 4 + ADDR0. -/
def latchStraps (l : StrapLevels) : Straps :=
  { address := BitVec.ofNat 4 (levelCode l.addr1 * 4 + levelCode l.addr0)
    role := roleOfLevel l.role
    room := BitVec.ofNat 2 (levelCode l.room)
    profile := profileOfLevel l.profile
    hold := l.hold }

/-! ### Modular distance (R12) -/

/-- The forward distance (b - a) mod D. -/
def fwd (D a b : Nat) : Nat := (b % D + D - a % D) % D

/-- The signed delta from a to b, in -D/2 + 1 to D/2. -/
def signedDelta (D a b : Nat) : Int :=
  if fwd D a b ≤ D / 2 then (fwd D a b : Int) else (fwd D a b : Int) - (D : Int)

/-- b is ahead of a. -/
def ahead (D a b : Nat) : Bool := decide (0 < fwd D a b ∧ fwd D a b ≤ D / 2)

/-- The range [s, e) covers p. -/
def covers (D s e p : Nat) : Bool := decide (fwd D s p < fwd D s e)

/-- (a - k) mod D. -/
def back (D a k : Nat) : Nat := (a % D + D - k % D) % D

/-- (a + k) mod D. -/
def onward (D a k : Nat) : Nat := (a + k) % D

/-! ### Labels and frame counts (R9, R10, R11) -/

/-- A label as four numbers. -/
def labelInRange (p : Profile) (hh mm ss ff : Nat) : Bool :=
  decide (hh < 24 ∧ mm < 60 ∧ ss < 60 ∧ ff < fpsOf p)

/-- A drop-frame label that the scheme leaves out (R10). -/
def labelDropped (p : Profile) (mm ss ff : Nat) : Bool :=
  dropOf p && decide (ss = 0 ∧ (ff = 0 ∨ ff = 1) ∧ mm % 10 ≠ 0)

/-- The frame count of an existing label: R9, or R10 in P0. -/
def countOfExisting (p : Profile) (hh mm ss ff : Nat) : Nat :=
  if dropOf p then
    ((60 * hh + mm) * 60 + ss) * 30 + ff - 2 * ((60 * hh + mm) - (60 * hh + mm) / 10)
  else ((hh * 60 + mm) * 60 + ss) * fpsOf p + ff

/-- The frame count of a label, none where the label does not exist in the profile (R8, R32). -/
def labelCount (p : Profile) (hh mm ss ff : Nat) : Option Nat :=
  if labelInRange p hh mm ss ff && !labelDropped p mm ss ff then some (countOfExisting p hh mm ss ff) else none

/-- The frame count of a label as a message carries it. -/
def countOfLabel (p : Profile) (l : Label) : Option Nat :=
  labelCount p l.hours.toNat l.minutes.toNat l.seconds.toNat l.frames.toNat

/-- N′ of R11 in P0; N itself in the other profiles (R9). -/
def nominalCount (p : Profile) (n : Nat) : Nat :=
  if dropOf p then
    n + (if n % 17982 < 2 then 18 * (n / 17982) else 18 * (n / 17982) + 2 * ((n % 17982 - 2) / 1798))
  else n

/-- The label of a frame count (R9, R11). -/
def labelOfCount (p : Profile) (n : Nat) : Label :=
  { hours := byte (nominalCount p n / (3600 * fpsOf p))
    minutes := byte (nominalCount p n / (60 * fpsOf p) % 60)
    seconds := byte (nominalCount p n / fpsOf p % 60)
    frames := byte (nominalCount p n % fpsOf p) }

/-! ### The position word (R8, R191) -/

/-- A field of the position word: its first bit in arrival order and its width; least significant bit first. -/
def wordField (w : BitVec 32) (first width : Nat) : Nat := (w.extractLsb' first width).toNat

/-- The sum of the eight digit fields and the drop flag (spec 01 section 1.4). -/
def wordSum (w : BitVec 32) : Nat :=
  wordField w 0 4 + wordField w 4 2 + wordField w 6 4 + wordField w 10 3 + wordField w 13 4 + wordField w 17 3 +
    wordField w 20 4 + wordField w 24 2 + wordField w 26 1

/-- Every digit field of the word is 9 or less. -/
def wordDigitsOk (w : BitVec 32) : Bool :=
  decide (wordField w 0 4 ≤ 9 ∧ wordField w 4 2 ≤ 9 ∧ wordField w 6 4 ≤ 9 ∧ wordField w 10 3 ≤ 9 ∧
    wordField w 13 4 ≤ 9 ∧ wordField w 17 3 ≤ 9 ∧ wordField w 20 4 ≤ 9 ∧ wordField w 24 2 ≤ 9)

/-- The judgement of a word taken (R8): the frame count of a valid word, none for one that fails. -/
def judgeWord (p : Profile) (w : BitVec 32) : Option Nat :=
  if decide (wordField w 27 5 = wordSum w % 32) && wordDigitsOk w && (decide (wordField w 26 1 = 1) == dropOf p) then
    labelCount p (10 * wordField w 24 2 + wordField w 20 4) (10 * wordField w 17 3 + wordField w 13 4)
      (10 * wordField w 10 3 + wordField w 6 4) (10 * wordField w 4 2 + wordField w 0 4)
  else none

/-! ### What the station reads of itself -/

/-- The day length of the latched profile. -/
def State.day (s : State) : Nat := dayOf s.straps.profile

/-- The raster line the unit reports (R3): it holds at lines per frame - 1. -/
def State.rasterLine (s : State) : Nat := min s.ref.lineCounter (linesOf s.straps.profile - 1)

/-- The sub-frame count (R3). -/
def State.subFrame (s : State) : Nat := 256 * s.rasterLine / linesOf s.straps.profile

/-- The position is known: LOCKED or HOLDOVER. -/
def lockHolds (l : Lock) : Bool := l == .locked || l == .holdover

/-- The transport is PLAY or VARI. -/
def rolling (t : Transport) : Bool := t == .play || t == .vari

/-- The transport is STOPPED, PLAY or VARI. -/
def settled (t : Transport) : Bool := t == .stopped || rolling t

/-- The role is one of the two RECORDER roles. -/
def isRecorder (r : Role) : Bool := r == .recorder0 || r == .recorder1

/-- The first global track a role owns (R127). -/
def firstTrack : Role → Nat
  | .booth => 0
  | .recorder0 => 0
  | .recorder1 => 8
  | .desk => 0

/-- The place among the own tracks of a global track of the station's bank (R127). -/
def ownTrack (r : Role) (track : Byte) : Option Nat :=
  if isRecorder r && decide (firstTrack r ≤ track.toNat ∧ track.toNat < firstTrack r + 8) then
    some (track.toNat - firstTrack r)
  else none

/-- The global track at a place among the own tracks. -/
def globalTrack (r : Role) (i : Nat) : Byte := byte (firstTrack r + i)

/-- The station is ACTIVE. -/
def State.active (s : State) : Bool := s.station.state == .active

/-- The station is an ACTIVE booth. -/
def State.activeBooth (s : State) : Bool := s.straps.role == .booth && s.active

end Sys2Proof.Machine
end

