-- ==== Sys2Proof/Machine/Formats.lean ====
section
/-! DEFINITION. The formats that cross the part's boundary: the CRC (R42), the header check (R147, R148),
code fields (R193), payload layouts (R194), and frames (R146, R192). -/

namespace Sys2Proof.Machine

/-! ### The CRC of R42 and R146 -/

/-- One message bit taken into the CRC. -/
def crcBit (crc : Word16) (b : Bool) : Word16 :=
  if crc.msb == b then crc <<< 1 else (crc <<< 1) ^^^ 0x1021#16

/-- One byte taken into the CRC, most significant bit first. -/
def crcByte (crc : Word16) (b : Byte) : Word16 := (bitsOfByte b).foldl crcBit crc

/-- The CRC of a byte sequence, from the initial value 0xFFFF. -/
def crc16 (bytes : List Byte) : Word16 := bytes.foldl crcByte 0xFFFF#16

/-! ### Code fields (R193) -/

/-- Kind codes. -/
def kindCode : Message → BitVec 5
  | .beacon _ => 1#5
  | .claim _ => 2#5
  | .answer _ => 3#5
  | .release _ => 4#5
  | .gate _ => 5#5
  | .abort _ => 6#5
  | .load _ => 7#5
  | .clear _ => 8#5
  | .select _ _ => 9#5
  | .mark _ => 10#5
  | .digest _ => 11#5
  | .reply _ => 12#5
  | .takeNote _ => 13#5

/-- The class of a kind by its code (spec 08 section 8.3), none for a code that is no kind. -/
def classOfCode (kind : BitVec 5) : Option (BitVec 2) :=
  match kind.toNat with
  | 1 => some 3#2
  | 2 => some 1#2
  | 3 => some 1#2
  | 4 => some 0#2
  | 5 => some 0#2
  | 6 => some 0#2
  | 7 => some 2#2
  | 8 => some 2#2
  | 9 => some 2#2
  | 10 => some 2#2
  | 11 => some 2#2
  | 12 => some 2#2
  | 13 => some 2#2
  | _ => none

/-- The class of a message's kind. -/
def classOf : Message → BitVec 2
  | .beacon _ => 3#2
  | .claim _ => 1#2
  | .answer _ => 1#2
  | .release _ => 0#2
  | .gate _ => 0#2
  | .abort _ => 0#2
  | .load _ => 2#2
  | .clear _ => 2#2
  | .select _ _ => 2#2
  | .mark _ => 2#2
  | .digest _ => 2#2
  | .reply _ => 2#2
  | .takeNote _ => 2#2

/-- The kinds sent as broadcasts (spec 08 section 8.3). -/
def isBroadcastKind : Message → Bool
  | .beacon _ => true
  | .claim _ => true
  | .answer _ => false
  | .release _ => true
  | .gate _ => true
  | .abort _ => true
  | .load _ => false
  | .clear _ => false
  | .select _ _ => false
  | .mark _ => false
  | .digest _ => false
  | .reply _ => false
  | .takeNote _ => true

/-- Role codes. -/
def roleCode : Role → Byte
  | .booth => 0#8
  | .recorder0 => 1#8
  | .recorder1 => 2#8
  | .desk => 3#8

/-- The role of a code. -/
def roleOfCode (b : Byte) : Option Role :=
  match b.toNat with
  | 0 => some .booth
  | 1 => some .recorder0
  | 2 => some .recorder1
  | 3 => some .desk
  | _ => none

/-- Station state codes. -/
def stateCode : StationState → Byte
  | .held => 0#8
  | .joining => 1#8
  | .active => 2#8
  | .muted => 3#8

/-- The station state of a code. -/
def stateOfCode (b : Byte) : Option StationState :=
  match b.toNat with
  | 0 => some .held
  | 1 => some .joining
  | 2 => some .active
  | 3 => some .muted
  | _ => none

/-- Lock state codes. -/
def lockCode : Lock → Byte
  | .unlocked => 0#8
  | .acquiring => 1#8
  | .locked => 2#8
  | .holdover => 3#8

/-- The lock state of a code. -/
def lockOfCode (b : Byte) : Option Lock :=
  match b.toNat with
  | 0 => some .unlocked
  | 1 => some .acquiring
  | 2 => some .locked
  | 3 => some .holdover
  | _ => none

/-- Transport codes. -/
def transportCode : Transport → Byte
  | .noRef => 0#8
  | .settling => 1#8
  | .stopped => 2#8
  | .play => 3#8
  | .vari => 4#8
  | .shuttle => 5#8
  | .reverse => 6#8

/-- The transport of a code. -/
def transportOfCode (b : Byte) : Option Transport :=
  match b.toNat with
  | 0 => some .noRef
  | 1 => some .settling
  | 2 => some .stopped
  | 3 => some .play
  | 4 => some .vari
  | 5 => some .shuttle
  | 6 => some .reverse
  | _ => none

/-- Deny reason codes. -/
def denyCode : DenyReason → Byte
  | .overlap => 0#8
  | .full => 1#8
  | .tooLate => 2#8
  | .badRange => 3#8

/-- RELEASE reason codes. -/
def releaseCode : ReleaseReason → Byte
  | .done => 0#8
  | .abort => 1#8
  | .late => 2#8
  | .limit => 3#8
  | .evict => 4#8
  | .reset => 5#8

/-- The RELEASE reason of a code. -/
def releaseOfCode (b : Byte) : Option ReleaseReason :=
  match b.toNat with
  | 0 => some .done
  | 1 => some .abort
  | 2 => some .late
  | 3 => some .limit
  | 4 => some .evict
  | 5 => some .reset
  | _ => none

/-- GATE reason codes. -/
def gateReasonCode : GateReason → Byte
  | .ended => 0#8
  | .release => 1#8
  | .abort => 2#8
  | .transport => 3#8
  | .refLost => 4#8
  | .peerLost => 5#8
  | .reset => 6#8

/-- The GATE reason of a code. -/
def gateReasonOfCode (b : Byte) : Option GateReason :=
  match b.toNat with
  | 0 => some .ended
  | 1 => some .release
  | 2 => some .abort
  | 3 => some .transport
  | 4 => some .refLost
  | 5 => some .peerLost
  | 6 => some .reset
  | _ => none

/-- REPLY result codes. -/
def resultCode : ReplyResult → Byte
  | .accepted => 0#8
  | .clamped => 1#8
  | .busy => 2#8
  | .badTime => 3#8
  | .badRange => 4#8
  | .badTrack => 5#8
  | .badSlot => 6#8
  | .wrongRole => 7#8
  | .notFound => 8#8
  | .inFlight => 9#8

/-- The REPLY result of a code. -/
def resultOfCode (b : Byte) : Option ReplyResult :=
  match b.toNat with
  | 0 => some .accepted
  | 1 => some .clamped
  | 2 => some .busy
  | 3 => some .badTime
  | 4 => some .badRange
  | 5 => some .badTrack
  | 6 => some .badSlot
  | 7 => some .wrongRole
  | 8 => some .notFound
  | 9 => some .inFlight
  | _ => none

/-- Answered kind codes: the kind codes of LOAD, CLEAR, SELECT, MARK and DIGEST. -/
def answeredCode : AnsweredKind → Byte
  | .load => 7#8
  | .clear => 8#8
  | .select => 9#8
  | .mark => 10#8
  | .digest => 11#8

/-- The answered kind of a code. -/
def answeredOfCode (b : Byte) : Option AnsweredKind :=
  match b.toNat with
  | 7 => some .load
  | 8 => some .clear
  | 9 => some .select
  | 10 => some .mark
  | 11 => some .digest
  | _ => none

/-- Take result codes. -/
def takeResultCode : TakeResult → Byte
  | .inFlight => 0#8
  | .recorded => 1#8
  | .notRecorded => 2#8
  | .cut => 3#8
  | .aborted => 4#8

/-- The take result of a code. -/
def takeResultOfCode (b : Byte) : Option TakeResult :=
  match b.toNat with
  | 0 => some .inFlight
  | 1 => some .recorded
  | 2 => some .notRecorded
  | 3 => some .cut
  | 4 => some .aborted
  | _ => none

/-- An off/on code: off 0, on 1. -/
def boolOfCode (b : Byte) : Option Bool :=
  match b.toNat with
  | 0 => some false
  | 1 => some true
  | _ => none

/-- ABORT room codes. -/
def abortRoomCode : AbortRoom → Byte
  | .room r => r.zeroExtend 8
  | .all => 0xFF#8

/-- The ABORT room of a code. -/
def abortRoomOfCode (b : Byte) : Option AbortRoom :=
  if b.toNat ≤ 3 then some (.room (b.extractLsb' 0 2)) else if b = 0xFF#8 then some .all else none

/-! ### Payloads (R194) -/

/-- The four bytes of a label. -/
def labelBytes (l : Label) : List Byte := [l.hours, l.minutes, l.seconds, l.frames]

/-- The 16 load bytes, from cue id to post-handle (R41, R194). -/
def loadBytes (cueId : Word16) (inL outL : Label) (streamer beepCount beepDur track pre post : Byte) : List Byte :=
  bytes16 cueId ++ labelBytes inL ++ labelBytes outL ++ [streamer, beepCount, beepDur, track, pre, post]

/-- The decision bytes of an ANSWER. -/
def decisionBytes : Decision → List Byte
  | .grant => [0#8]
  | .denyOverlap c => [1#8, denyCode .overlap, c]
  | .denyFull => [1#8, denyCode .full]
  | .denyTooLate => [1#8, denyCode .tooLate]
  | .denyBadRange => [1#8, denyCode .badRange]

/-- The event bytes of a GATE, its reason left out on OPEN. -/
def gateEventBytes : GateEvent → List Byte
  | .opened => [0#8]
  | .closed r => [1#8, gateReasonCode r]
  | .cut r => [2#8, gateReasonCode r]

/-- The optional bytes of a REPLY. -/
def replyTail (m : ReplyMsg) : List Byte :=
  (match m.clamped with
    | some set => [set]
    | none => []) ++
  match m.digest with
    | some (crc, used) => bytes16 crc ++ [used]
    | none => []

/-- The payload of a message. -/
def payloadOf : Message → List Byte
  | .beacon m =>
    [roleCode m.role, m.room, stateCode m.state, lockCode m.lock, transportCode m.transport] ++ bytes24 m.position
  | .claim m =>
    [m.track, m.claimNo, m.room] ++ bytes16 m.cueId ++ bytes24 m.f1 ++ bytes24 m.f2 ++ [byteBool m.resend]
  | .answer m => [m.claimNo, m.track] ++ decisionBytes m.decision
  | .release m => [m.track, m.claimNo, releaseCode m.reason]
  | .gate m => [m.track] ++ gateEventBytes m.event ++ [m.claimant, m.claimNo, m.room] ++ bytes24 m.position
  | .abort room => [abortRoomCode room]
  | .load m =>
    [m.slot] ++ loadBytes m.cueId m.inLabel m.outLabel m.streamer m.beepCount m.beepDur m.track m.pre m.post ++
      [m.textLen] ++ m.text
  | .clear m => [m.first, m.last]
  | .select m on => [m.first, m.last, byteBool on]
  | .mark m => [m.slot, m.take, byteBool m.circle]
  | .digest m => [m.first, m.count]
  | .reply m => [answeredCode m.kind, m.slot, resultCode m.result] ++ replyTail m
  | .takeNote m =>
    [m.slot] ++ bytes16 m.cueId ++ [m.take] ++ bytes16 m.serial ++ [takeResultCode m.result, byteBool m.offSpeed] ++
      bytes24 m.start ++ bytes24 m.stop

/-- The decision that the bytes after an ANSWER's track spell. -/
def decisionOfBytes : List Byte → Option Decision
  | [d] => if d = 0#8 then some .grant else none
  | [d, r] =>
    if d = 1#8 then
      match r.toNat with
      | 1 => some .denyFull
      | 2 => some .denyTooLate
      | 3 => some .denyBadRange
      | _ => none
    else none
  | [d, r, c] => if d = 1#8 ∧ r = 0#8 then some (.denyOverlap c) else none
  | _ => none

/-- The LOAD that a payload spells; its text is as long as its text length calls for. -/
def loadOfBytes : List Byte → Option LoadMsg
  | slot :: c1 :: c0 :: ih :: im :: is :: ifr :: oh :: om :: os :: ofr :: st :: bc :: bd :: tr :: pre :: post :: tl :: text =>
    if text.length = min tl.toNat 14 then
      some
        { slot := slot, cueId := word16 c1 c0, inLabel := ⟨ih, im, is, ifr⟩, outLabel := ⟨oh, om, os, ofr⟩,
          streamer := st, beepCount := bc, beepDur := bd, track := tr, pre := pre, post := post, textLen := tl,
          text := text }
    else none
  | _ => none

/-- The BEACON that a payload spells. -/
def beaconOfBytes : List Byte → Option BeaconMsg
  | [ro, rm, st, lk, tr, p2, p1, p0] =>
    match roleOfCode ro, stateOfCode st, lockOfCode lk, transportOfCode tr with
    | some role, some state, some lock, some transport =>
      some
        { role := role, room := rm, state := state, lock := lock, transport := transport, position := count24 p2 p1 p0 }
    | _, _, _, _ => none
  | _ => none

/-- The CLAIM that a payload spells. -/
def claimOfBytes : List Byte → Option ClaimMsg
  | [tr, n, rm, c1, c0, a2, a1, a0, b2, b1, b0, rs] =>
    (boolOfCode rs).map fun resend =>
      { track := tr, claimNo := n, room := rm, cueId := word16 c1 c0, f1 := count24 a2 a1 a0, f2 := count24 b2 b1 b0,
        resend := resend }
  | _ => none

/-- The GATE that a payload spells. -/
def gateOfBytes : List Byte → Option GateMsg
  | [tr, ev, cl, n, rm, p2, p1, p0] =>
    if ev = 0#8 then
      some
        { track := tr, event := .opened, claimant := cl, claimNo := n, room := rm, position := count24 p2 p1 p0 }
    else none
  | [tr, ev, rs, cl, n, rm, p2, p1, p0] =>
    match ev.toNat, gateReasonOfCode rs with
    | 1, some r =>
      some
        { track := tr, event := .closed r, claimant := cl, claimNo := n, room := rm, position := count24 p2 p1 p0 }
    | 2, some r =>
      some { track := tr, event := .cut r, claimant := cl, claimNo := n, room := rm, position := count24 p2 p1 p0 }
    | _, _ => none
  | _ => none

/-- The REPLY that a payload spells; its length follows from its result and answered kind. -/
def replyOfBytes : List Byte → Option ReplyMsg
  | k :: slot :: r :: rest =>
    match answeredOfCode k, resultOfCode r with
    | some kind, some result =>
      if result = .clamped then
        match rest with
        | [set] => some { kind := kind, slot := slot, result := result, clamped := some set, digest := none }
        | _ => none
      else if kind = .digest ∧ result = .accepted then
        match rest with
        | [c1, c0, used] =>
          some { kind := kind, slot := slot, result := result, clamped := none, digest := some (word16 c1 c0, used) }
        | _ => none
      else
        match rest with
        | [] => some { kind := kind, slot := slot, result := result, clamped := none, digest := none }
        | _ => none
    | _, _ => none
  | _ => none

/-- The TAKE_NOTE that a payload spells. -/
def takeNoteOfBytes : List Byte → Option TakeNoteMsg
  | [slot, c1, c0, tk, s1, s0, rs, os, a2, a1, a0, b2, b1, b0] =>
    match takeResultOfCode rs, boolOfCode os with
    | some result, some offSpeed =>
      some
        { slot := slot, cueId := word16 c1 c0, take := tk, serial := word16 s1 s0, result := result,
          offSpeed := offSpeed, start := count24 a2 a1 a0, stop := count24 b2 b1 b0 }
    | _, _ => none
  | _ => none

/-- The message that a payload of a kind spells; none where the kind is unknown, the length differs from the
layout's or a code field holds none of its values (R150, R193, R194). -/
def messageOf (kind : BitVec 5) (payload : List Byte) : Option Message :=
  match kind.toNat with
  | 1 => (beaconOfBytes payload).map .beacon
  | 2 => (claimOfBytes payload).map .claim
  | 3 =>
    match payload with
    | n :: tr :: rest => (decisionOfBytes rest).map fun d => .answer { claimNo := n, track := tr, decision := d }
    | _ => none
  | 4 =>
    match payload with
    | [tr, n, rs] => (releaseOfCode rs).map fun r => .release { track := tr, claimNo := n, reason := r }
    | _ => none
  | 5 => (gateOfBytes payload).map .gate
  | 6 =>
    match payload with
    | [rm] => (abortRoomOfCode rm).map .abort
    | _ => none
  | 7 => (loadOfBytes payload).map .load
  | 8 =>
    match payload with
    | [a, b] => some (.clear ⟨a, b⟩)
    | _ => none
  | 9 =>
    match payload with
    | [a, b, c] => (boolOfCode c).map fun on => .select ⟨a, b⟩ on
    | _ => none
  | 10 =>
    match payload with
    | [a, b, c] => (boolOfCode c).map fun on => .mark ⟨a, b, on⟩
    | _ => none
  | 11 =>
    match payload with
    | [a, b] => some (.digest ⟨a, b⟩)
    | _ => none
  | 12 => (replyOfBytes payload).map .reply
  | 13 => (takeNoteOfBytes payload).map .takeNote
  | _ => none

/-! ### The header and its check (R147, R148, R192) -/

/-- The 24 header bits; bit i is data bit i of R147. -/
def headerBits (dest source : Addr) (kind : BitVec 5) (cls : BitVec 2) (broadcast : Bool) (length : BitVec 6) :
    BitVec 24 :=
  (0#2 ++ length) ++ (kind ++ cls ++ BitVec.ofBool broadcast) ++ (dest ++ source)

/-- The source address of a header. -/
def headerSource (h : BitVec 24) : Addr := h.extractLsb' 0 4

/-- The destination address of a header. -/
def headerDest (h : BitVec 24) : Addr := h.extractLsb' 4 4

/-- The broadcast flag of a header. -/
def headerBroadcast (h : BitVec 24) : Bool := h.getLsbD 8

/-- The class of a header. -/
def headerClass (h : BitVec 24) : BitVec 2 := h.extractLsb' 9 2

/-- The kind of a header. -/
def headerKind (h : BitVec 24) : BitVec 5 := h.extractLsb' 11 5

/-- The payload length of a header. -/
def headerLen (h : BitVec 24) : Nat := (h.extractLsb' 16 6).toNat

/-- The three header bytes in the order they are sent. -/
def headerBytes (h : BitVec 24) : List Byte := [h.extractLsb' 0 8, h.extractLsb' 8 8, h.extractLsb' 16 8]

/-- The positions of data bits 0 to 23: 3 to 29 without the powers of two (R147). -/
def dataPositions : List Nat :=
  [3, 5, 6, 7, 9, 10, 11, 12, 13, 14, 15, 17, 18, 19, 20, 21, 22, 23, 24, 25, 26, 27, 28, 29]

/-- The position of data bit i. -/
def dataPosition (i : Nat) : Nat := dataPositions.getD i 0

/-- The five check bits: the exclusive OR of the positions of every data bit that is 1. -/
def checkBits (h : BitVec 24) : BitVec 5 :=
  (List.range 24).foldl (fun acc i => if h.getLsbD i then acc ^^^ BitVec.ofNat 5 (dataPosition i) else acc) 0#5

/-- The number of ones among the low bits of a word. -/
def ones {w : Nat} (x : BitVec w) : Nat := (List.range w).countP (fun i => x.getLsbD i)

/-- The check byte of a header: parity in bit 5, the check bits below it (R147). -/
def checkByte (h : BitVec 24) : Byte :=
  0#2 ++ BitVec.ofBool (decide ((ones h + ones (checkBits h)) % 2 = 1)) ++ checkBits h

/-- How a header is judged: the header as corrected where it is good, and whether anything was fixed. -/
structure HeaderJudged where
  good  : Option (BitVec 24)
  fixed : Bool
deriving DecidableEq, Repr

/-- The syndrome of R148. -/
def syndrome (h : BitVec 24) (check : Byte) : BitVec 5 := checkBits h ^^^ check.extractLsb' 0 5

/-- Even parity over the 24 data bits, the 5 check bits and the parity bit as received. -/
def parityGood (h : BitVec 24) (check : Byte) : Bool := decide ((ones h + ones (check.extractLsb' 0 6)) % 2 = 0)

/-- The data bit standing at a position, none for a position of a check bit or above 29. -/
def dataBitAt (position : Nat) : Option Nat := (List.range 24).find? (fun i => dataPosition i == position)

/-- The must-be-zero bits of the header and of the check byte as received (R148). -/
def mustBeZeroOk (h : BitVec 24) (check : Byte) : Bool :=
  decide (h.extractLsb' 22 2 = 0#2 ∧ check.extractLsb' 6 2 = 0#2)

/-- A header corrected by the table of R148, none where it is uncorrectable, with whether it was fixed. -/
def correctHeader (h : BitVec 24) (check : Byte) : Option (BitVec 24) × Bool :=
  if parityGood h check then
    if syndrome h check = 0#5 then (some h, false) else (none, false)
  else
    match dataBitAt (syndrome h check).toNat with
    | some i => (some (h ^^^ (1#24 <<< i)), true)
    | none => if (syndrome h check).toNat < 30 then (some h, true) else (none, false)

/-- The judgement of a header (R148). -/
def judgeHeader (h : BitVec 24) (check : Byte) : HeaderJudged :=
  match correctHeader h check with
  | (some h', fixed) => { good := if mustBeZeroOk h' check then some h' else none, fixed := fixed }
  | (none, fixed) => { good := none, fixed := fixed }

/-! ### Frames (R146, R149, R150, R192) -/

/-- The CRC of a frame: over the header bytes, the check byte and the payload. -/
def frameCrc (header : BitVec 24) (payload : List Byte) : Word16 :=
  crc16 (headerBytes header ++ [checkByte header] ++ payload)

/-- The header of a message to an address: a broadcast kind carries destination 0 and the broadcast flag (R146). -/
def headerFor (source dest : Addr) (m : Message) : BitVec 24 :=
  headerBits (if isBroadcastKind m then 0#4 else dest) source (kindCode m) (classOf m) (isBroadcastKind m)
    (BitVec.ofNat 6 (payloadOf m).length)

/-- The header a delivered frame came with. -/
def headerOfFrame (f : FrameHead) (m : Message) : BitVec 24 :=
  headerBits f.dest f.source (kindCode m) (classOf m) f.broadcast (BitVec.ofNat 6 (payloadOf m).length)

/-- The frame of a header and payload: preamble, header, check byte, payload and CRC, high byte first (R192). -/
def frameOf (header : BitVec 24) (payload : List Byte) : List Byte :=
  [0x5A#8] ++ headerBytes header ++ [checkByte header] ++ payload ++ bytes16 (frameCrc header payload)

/-- The frame the station builds for a message (R146). -/
def buildFrame (source dest : Addr) (m : Message) : List Byte := frameOf (headerFor source dest m) (payloadOf m)

/-- What judging a whole frame finds: a CRC mismatch, a format fault, or a good frame (R149, R150). -/
inductive FrameJudged where
  | crcBad
  | formatBad
  | good (m : Message)
deriving DecidableEq, Repr

/-- The judgement of a whole frame after a good header (R149, R150). -/
def judgeFrame (header : BitVec 24) (payload : List Byte) (crc : Word16) : FrameJudged :=
  if frameCrc header payload = crc then
    if classOfCode (headerKind header) = some (headerClass header) ∧ payload.length ≤ 32 then
      match messageOf (headerKind header) payload with
      | some m => .good m
      | none => .formatBad
    else .formatBad
  else .crcBad

/-- The bits of a frame on the line: its bytes in order, each most significant bit first (R145). -/
def frameBits (frame : List Byte) : List Bool := frame.flatMap bitsOfByte

/-- The halves a station drives for a bit, true for dominant: a 0 has its dominant half first (R145). -/
def halvesOf (bit : Bool) : Bool × Bool := (!bit, bit)

/-- How a receiver reads a bit time (R145): a dominant first half is 0, a dominant second half alone is 1, and a bit
time with no dominant half is idle. -/
def readHalves (first second : Bool) : Option Bool := if first then some false else if second then some true else none

end Sys2Proof.Machine
end

