-- ==== Sys2Proof/Machine/Flags.lean ====
section
/-! DEFINITION. The attention flags, the mask and ATTN (R186, R187, R195), and the line counters (R162). -/

namespace Sys2Proof.Machine

/-- The thirteen sticky attention flags (R186). -/
inductive Flag where
  | refUnlock | refGlitch | refWordBad | lineHdrFixed | lineHdrBad | lineCrcBad | lineFormat | sendFail
  | queueDrop | inboxOverrun | addrClash | takeEnd | gateCut
deriving DecidableEq, Repr

/-- The bit of a flag in flag, mask and ACK_FLAGS words (R195). -/
def flagBit : Flag → Nat
  | .refUnlock => 0
  | .refGlitch => 1
  | .refWordBad => 2
  | .lineHdrFixed => 3
  | .lineHdrBad => 4
  | .lineCrcBad => 5
  | .lineFormat => 6
  | .sendFail => 7
  | .queueDrop => 8
  | .inboxOverrun => 9
  | .addrClash => 10
  | .takeEnd => 11
  | .gateCut => 12

/-- The flags with one more set; a flag already set stays set (R186). -/
def withFlag (f : Flag) (flags : BitVec 13) : BitVec 13 := flags ||| (1#13 <<< flagBit f)

/-- An event of a sticky flag. -/
def State.setFlag (f : Flag) (s : State) : State := { s with port := { s.port with sticky := withFlag f s.port.sticky } }

/-- An event of a sticky flag where a condition holds. -/
def State.setFlagIf (c : Bool) (f : Flag) (s : State) : State := if c then s.setFlag f else s

/-- A sticky flag is set. -/
def State.hasFlag (f : Flag) (s : State) : Bool := s.port.sticky.getLsbD (flagBit f)

/-- INBOX_READY, the level flag: the inbox holds at least one message (R161). -/
def State.inboxReady (s : State) : Bool := !s.line.inbox.isEmpty

/-- The fourteen flags in the bits of R195. -/
def State.flags (s : State) : BitVec 14 := BitVec.ofBool s.inboxReady ++ s.port.sticky

/-- ATTN is asserted while some flag is set whose mask bit is set (R187). -/
def State.attn (s : State) : Bool := decide (s.flags &&& s.port.mask ≠ 0#14)

/-- The sticky flags after an ACK_FLAGS word: every named one is cleared (R186). -/
def ackSticky (word : Word16) (flags : BitVec 13) : BitVec 13 := flags &&& ~~~(word.extractLsb' 0 13)

/-- The counters bit of an ACK_FLAGS word (R195). -/
def ackCounters (word : Word16) : Bool := word.getLsbD 15

/-- A line counter raised by one, saturating at 65535 (R162). -/
def saturate16 (n : Nat) : Nat := min (n + 1) 65535

/-- The line counters at 0 (R162). -/
def zeroCounters (l : LineUnit) : LineUnit :=
  { l with hdrFixed := 0, hdrBad := 0, crcBad := 0, collisions := 0, sendFail := 0 }

/-- A header found repaired, or with a wrong check or parity bit (R148, R162). -/
def State.countHdrFixed (s : State) : State :=
  { s with line := { s.line with hdrFixed := saturate16 s.line.hdrFixed } }.setFlag .lineHdrFixed

/-- A header found bad (R148, R149, R162). -/
def State.countHdrBad (s : State) : State :=
  { s with line := { s.line with hdrBad := saturate16 s.line.hdrBad } }.setFlag .lineHdrBad

/-- A CRC mismatch or a frame cut short after a good header (R149, R162). -/
def State.countCrcBad (s : State) : State :=
  { s with line := { s.line with crcBad := saturate16 s.line.crcBad } }.setFlag .lineCrcBad

/-- A collision of the station's own attempt (R155, R162). -/
def State.countCollision (s : State) : State :=
  { s with line := { s.line with collisions := saturate16 s.line.collisions } }

/-- A message dropped after six failed attempts (R156, R162). -/
def State.countSendFail (s : State) : State :=
  { s with line := { s.line with sendFail := saturate16 s.line.sendFail } }.setFlag .sendFail

end Sys2Proof.Machine
end

