-- ==== Sys2Proof/Machine/Ops.lean ====
section
/-! DEFINITION. The operations the steps share: the pseudorandom source (R173), the transmit queue
(R158 to R160), access to slots, entries, peers and tracks, and the answer record of the panel port (R180). -/

namespace Sys2Proof.Machine

/-! ### The pseudorandom source (R173) -/

/-- One step of the register. -/
def prngStep (x : Word16) : Word16 := if x.getLsbD 0 then (x >>> 1) ^^^ 0xB400#16 else x >>> 1

/-- The seed of an address. -/
def prngSeed (a : Addr) : Word16 := 0xACE1#16 ^^^ BitVec.ofNat 16 (0x1111 * a.toNat)

/-- The register stepped once. -/
def State.stepPrng (s : State) : State :=
  { s with station := { s.station with prng := prngStep s.station.prng } }

/-- What a draw of k bits takes from the register: the k least significant bits after the draw's own step. -/
def State.drawValue (k : Nat) (s : State) : Nat := (prngStep s.station.prng).toNat % 2 ^ k

/-- The beacon timer set with a new draw: 100 + r ticks (R171). -/
def State.setBeaconTimer (s : State) : State :=
  { s.stepPrng with station := { s.stepPrng.station with beaconTimer := 100 + s.drawValue 4 } }

/-! ### The transmit queue (R158, R159, R160) -/

/-- The class of a queued message, 0 the most urgent. -/
def TxMsg.cls (m : TxMsg) : Nat :=
  match m.content with
  | .beacon => 3
  | .fixed _ msg => (classOf msg).toNat

/-- The message is a BEACON. -/
def TxMsg.isBeacon (m : TxMsg) : Bool := m.content == .beacon

/-- A message as it joins the queue. -/
def freshTx (c : TxContent) (o : Origin) : TxMsg :=
  { content := c, origin := o, attempts := 0, extra := 0, repeatMark := false, underAttempt := false }

/-- The queue with a message at its place: ascending class, and within a class in the order queued (R158). -/
def insertTx (m : TxMsg) : List TxMsg → List TxMsg
  | [] => [m]
  | x :: xs => if m.cls < x.cls then m :: x :: xs else x :: insertTx m xs

/-- What happens to a message given to the queue (R159, R160). -/
inductive Offer where
  | joined (q : List TxMsg)
  | displaced (q : List TxMsg)
  | full
deriving DecidableEq, Repr

/-- A message that is no BEACON replacement is given (R159, R160). The youngest message of the highest class
present is the last of the queue. -/
def offerTx (m : TxMsg) (q : List TxMsg) : Offer :=
  if q.length < 8 then .joined (insertTx m q)
  else
    match q.getLast? with
    | some victim =>
      if m.cls < victim.cls ∧ victim.underAttempt = false then .displaced (insertTx m q.dropLast) else .full
    | none => .full

/-- The station with another transmit queue. -/
def State.withQueue (q : List TxMsg) (s : State) : State := { s with line := { s.line with queue := q } }

/-- A block gives a message: where the queue displaces a message or drops this one, QUEUE_DROP is set (R160). -/
def State.giveInternal (c : TxContent) (s : State) : State :=
  match offerTx (freshTx c .internal) s.line.queue with
  | .joined q => s.withQueue q
  | .displaced q => (s.withQueue q).setFlag .queueDrop
  | .full => s.setFlag .queueDrop

/-- A block gives a message to an address; a broadcast kind ignores the address (R146). -/
def State.give (dest : Addr) (m : Message) (s : State) : State := s.giveInternal (.fixed dest m)

/-- The panel port gives a message (R160, R184): the status answered. -/
def panelOffer (dest : Addr) (m : Message) (s : State) : State × Status :=
  match offerTx (freshTx (.fixed dest m) .panel) s.line.queue with
  | .joined q => (s.withQueue q, .queued)
  | .displaced q => ((s.withQueue q).setFlag .queueDrop, .queued)
  | .full => (s, .queueFull)

/-- The queued BEACON meets a new one: the new one takes its place with its attempt count and extra defer, or, where it
is under attempt, its repeat mark is set (R159; notes/assumptions/12.md). -/
def renewBeacon (m : TxMsg) : TxMsg :=
  if m.isBeacon then { m with repeatMark := m.underAttempt } else m

/-- The station unit gives a BEACON (R159, R160). -/
def State.giveBeacon (s : State) : State :=
  if s.line.queue.any TxMsg.isBeacon then s.withQueue (s.line.queue.map renewBeacon) else s.giveInternal .beacon

/-- These messages to all stations stand first, in this order, where the queue's part holds them; the rest keep their
order behind them. -/
def arranged : List Message → List TxMsg → List TxMsg
  | [], q => q
  | m :: order, q =>
    match q.find? (fun x => x.content == .fixed 0#4 m) with
    | some x => x :: arranged order (q.erase x)
    | none => arranged order q

/-- The messages of class 0 behind the first `old` stand in this order; the others keep their places (R124, R158). -/
def State.orderUrgent (old : Nat) (order : List Message) (s : State) : State :=
  s.withQueue
    (s.line.queue.take old ++ arranged order ((s.line.queue.drop old).takeWhile (fun m => m.cls == 0)) ++
      (s.line.queue.drop old).dropWhile (fun m => m.cls == 0))

/-! ### Slots, entries, peers and tracks -/

/-- The cue of a slot, none where the slot is EMPTY or there is no such slot. -/
def State.cueAt (slot : Nat) (s : State) : Option Cue := (s.cues[slot]?).join

/-- The track of a slot, none where it has none. -/
def State.trackOf (slot : Nat) (s : State) : Option Byte := (s.cueAt slot).bind Cue.track

/-- A slot is written. -/
def State.setCue (slot : Nat) (c : Option Cue) (s : State) : State := { s with cues := s.cues.set slot c }

/-- The LOADED cue of a slot is changed in place. -/
def State.updateCue (slot : Nat) (f : Cue → Cue) (s : State) : State :=
  match s.cueAt slot with
  | some c => s.setCue slot (some (f c))
  | none => s

/-- The entry of a slot. -/
def State.entryOf (slot : Nat) (s : State) : Option Entry := s.entries.find? (fun e => e.slot == slot)

/-- The slot is in the lookahead (R30). -/
def State.inLookahead (slot : Nat) (s : State) : Bool := s.entries.any (fun e => e.slot == slot)

/-- The entry of a slot is changed in place. -/
def State.updateEntry (slot : Nat) (f : Entry → Entry) (s : State) : State :=
  { s with entries := s.entries.map (fun e => if e.slot == slot then f e else e) }

/-- The flag of a mark kind in the crossed word (R197: the order of R46). -/
def markBit : MarkKind → Nat
  | .windowOpen => 0
  | .beep3 => 1
  | .beep2 => 2
  | .beep1 => 3
  | .streamerStart => 4
  | .punchIn => 5
  | .cueIn => 6
  | .cueOut => 7
  | .punchOut => 8

/-- The mark has been taken in the current pass. -/
def Entry.isCrossed (k : MarkKind) (e : Entry) : Bool := e.crossed.getLsbD (markBit k)

/-- The mark is taken. -/
def Entry.cross (k : MarkKind) (e : Entry) : Entry := { e with crossed := e.crossed ||| (1#9 <<< markBit k) }

/-- The claim may be held at a recorder: PENDING or GRANTED. -/
def claimOpen (c : ClaimState) : Bool := c == .pending || c == .granted

/-- The takes in flight: the RUNNING entries in entry order. -/
def State.running (s : State) : List Entry := s.entries.filter (fun e => e.take == .running)

/-- The bank of a track: 0 or 1 (R113). -/
def bankRole (track : Byte) : Role := if track.toNat < 8 then .recorder0 else .recorder1

/-- The peer table shows a recorder of the track's bank present (R113, R174). -/
def State.recorderPresent (track : Byte) (s : State) : Bool :=
  s.station.peers.any (fun p => p.present && p.info.any (fun i => i.role == bankRole track))

/-- A peer table entry is changed. -/
def State.updatePeer (a : Addr) (f : Peer → Peer) (s : State) : State :=
  { s with station := { s.station with peers := s.station.peers.modify a.toNat f } }

/-- An own track is written. -/
def State.setTrack (i : Nat) (t : Track) (s : State) : State := { s with tracks := s.tracks.set i t }

/-! ### The answer record (R180) -/

/-- The port moves to answering with this answer. -/
def State.answerWith (st : Status) (body : List Byte) (s : State) : State :=
  { s with port := { s.port with transaction := .answering, answer := some { status := st, body := body } } }

/-- The port is idle and holds no answer. -/
def State.portIdle (s : State) : State := { s with port := { s.port with transaction := .idle, answer := none } }

/-- Status codes (R195). -/
def statusCode : Status → Byte
  | .ok => 0#8
  | .empty => 1#8
  | .badIndex => 2#8
  | .badRequest => 3#8
  | .notHeld => 4#8
  | .queued => 5#8
  | .queueFull => 6#8
  | .notAllowed => 7#8
  | .notActive => 8#8
  | .badLength => 9#8

/-- The bytes of an answer: status, body length, body; a status other than OK has no body (R195). -/
def answerBytes (a : Answer) : List Byte :=
  if a.status = .ok then [statusCode a.status, byte a.body.length] ++ a.body else [statusCode a.status, 0#8]

/-- The bits the station gives on PDO for an answer, each byte most significant bit first (R198). -/
def answerBits (a : Answer) : List Bool := (answerBytes a).flatMap bitsOfByte

end Sys2Proof.Machine
end

