-- ==== Sys2Proof/Machine/Claims.lean ====
section
/-! DEFINITION. The claim unit of a booth (spec 06): new claims, the answer timer, answers, and RELEASE. -/

namespace Sys2Proof.Machine

/-- A RELEASE is queued (R123). -/
def State.giveRelease (track claimNo : Byte) (reason : ReleaseReason) (s : State) : State :=
  s.give 0#4 (.release { track := track, claimNo := claimNo, reason := reason })

/-- An entry whose claim has been given back: number kept, deny reason absent, answer timer stopped (R123). -/
def Entry.released (e : Entry) : Entry :=
  { e with claim := .released, denyReason := none, answerTimer := 0, resent := false }

/-- The RELEASE that names an entry's claim (R123). -/
def State.releaseOf (reason : ReleaseReason) (e : Entry) (s : State) : Option Message :=
  match s.trackOf e.slot, e.claimNo with
  | some track, some n => some (.release { track := track, claimNo := n, reason := reason })
  | _, _ => none

/-- A RELEASE for an entry's claim is queued and the claim becomes RELEASED (R123). -/
def releaseEntry (reason : ReleaseReason) (e : Entry) (s : State) : State :=
  match s.releaseOf reason e with
  | some m => (s.give 0#4 m).updateEntry e.slot Entry.released
  | none => s.updateEntry e.slot Entry.released

/-- The claim of a slot's entry is given back where it is PENDING or GRANTED (R123). -/
def releaseClaim (reason : ReleaseReason) (slot : Nat) (s : State) : State :=
  match s.entryOf slot with
  | some e => if claimOpen e.claim then releaseEntry reason e s else s
  | none => s

/-- The claim of a slot's entry is given back with LIMIT where it is GRANTED (R94, R123). -/
def releaseLimit (slot : Nat) (s : State) : State :=
  match s.entryOf slot with
  | some e => if e.claim = .granted then releaseEntry .limit e s else s
  | none => s

/-- The CLAIM of an entry (R115). -/
def claimMsgOf (room : BitVec 2) (track : Byte) (cueId : Word16) (claimNo : Byte) (resend : Bool) (m : Marks) : ClaimMsg :=
  { track := track, claimNo := claimNo, room := room.zeroExtend 8, cueId := cueId,
    f1 := BitVec.ofNat 24 m.punchIn, f2 := BitVec.ofNat 24 m.punchOut, resend := resend }

/-- An entry for whose track no recorder is present (R114, R116, R117). -/
def Entry.noRecorder (e : Entry) : Entry :=
  { e with claim := .noRecorder, claimNo := none, denyReason := none, answerTimer := 0, resent := false }

/-- An entry with a new claim of this number (R114). -/
def Entry.claimed (n : Byte) (e : Entry) : Entry :=
  { e with claim := .pending, claimNo := some n, denyReason := none, answerTimer := 40, resent := false }

/-- A new claim where a recorder of the bank is present: the counter rises, and a CLAIM is queued (R114, R115). -/
def sendClaim (track : Byte) (c : Cue) (e : Entry) (s : State) : State :=
  (({ s with claimCounter := s.claimCounter + 1#8 }).updateEntry e.slot (Entry.claimed (s.claimCounter + 1#8))).give 0#4
    (.claim (claimMsgOf s.straps.room track c.cueId (s.claimCounter + 1#8) false e.marks))

/-- The lookahead calls for a claim of a slot's entry (R114); a slot without a track claims nothing (R113). -/
def newClaim (slot : Nat) (s : State) : State :=
  match s.entryOf slot, s.cueAt slot with
  | some e, some c =>
    match c.track with
    | some track =>
      if s.recorderPresent track then sendClaim track c e s else s.updateEntry slot Entry.noRecorder
    | none => s
  | _, _ => s

/-! ### Waiting for an answer (R116, R117) -/

/-- A tick at an entry: the answer timer of a PENDING claim falls by one. -/
def Entry.tickTimer (e : Entry) : Entry :=
  if e.claim = .pending then { e with answerTimer := e.answerTimer - 1 } else e

/-- The same claim is sent again: timer at 40, resent, and a CLAIM with the resend flag (R116). -/
def resendClaim (track : Byte) (c : Cue) (n : Byte) (e : Entry) (s : State) : State :=
  (s.updateEntry e.slot (fun x => { x with answerTimer := 40, resent := true })).give 0#4
    (.claim (claimMsgOf s.straps.room track c.cueId n true e.marks))

/-- A claim given up: NO_RECORDER, with the timer stopped and the claim number kept (R116, R117). -/
def Entry.givenUp (e : Entry) : Entry := { e with claim := .noRecorder, answerTimer := 0, resent := false }

/-- The answer timer of a PENDING claim stands at 0. -/
def Entry.answerDue (e : Entry) : Bool := e.claim == .pending && e.answerTimer == 0

/-- The action at the expiry of an entry's answer timer (R116). -/
def answerExpired (e : Entry) (s : State) : State :=
  if e.resent then s.updateEntry e.slot Entry.givenUp
  else
    match s.cueAt e.slot, s.trackOf e.slot, e.claimNo with
    | some c, some track, some n => resendClaim track c n e s
    | _, _, _ => s

/-- An entry at the loss of a recorder of a bank (R117). -/
def Entry.bankLost (s : State) (bank : Role) (e : Entry) : Entry :=
  if claimOpen e.claim && (s.trackOf e.slot).any (fun t => bankRole t == bank) then e.givenUp else e

/-- The claim unit at a peer loss (R117): it acts where the peer's entry showed a RECORDER role. -/
def claimsPeerLost (p : Peer) (s : State) : State :=
  match p.info with
  | some i => if isRecorder i.role then { s with entries := s.entries.map (Entry.bankLost s i.role) } else s
  | none => s

/-! ### Answers (R118 to R122) -/

/-- The entries that an ANSWER or GATE names by claim number and track (R98, R118). -/
def namedEntries (track claimNo : Byte) (s : State) : List Entry :=
  s.entries.filter (fun e => e.claimNo == some claimNo && s.trackOf e.slot == some track)

/-- The matched entry: the first whose claim is PENDING or GRANTED, or the first where none is (R98, R118). -/
def matchedEntry (track claimNo : Byte) (s : State) : Option Entry :=
  ((namedEntries track claimNo s).find? (fun e => claimOpen e.claim)).or (namedEntries track claimNo s).head?

/-- A grant for this entry is late (R120). -/
def Entry.grantLate (e : Entry) : Bool := e.isCrossed .punchIn || e.take == .late

/-- An entry whose grant is taken (R120). -/
def Entry.grantTaken (e : Entry) : Entry :=
  { e with claim := .granted, denyReason := none, answerTimer := 0, resent := false }

/-- A GRANT at the matched entry (R119, R120). -/
def grantEntry (m : AnswerMsg) (e : Entry) (s : State) : State :=
  match e.claim with
  | .granted => s
  | .released => s.giveRelease m.track m.claimNo .evict
  | .none => s
  | .pending => if e.grantLate then releaseEntry .late e s else s.updateEntry e.slot Entry.grantTaken
  | .denied => if e.grantLate then releaseEntry .late e s else s.updateEntry e.slot Entry.grantTaken
  | .noRecorder => if e.grantLate then releaseEntry .late e s else s.updateEntry e.slot Entry.grantTaken

/-- An entry whose claim is denied (R121). -/
def Entry.deniedFor (r : DenyReason) (e : Entry) : Entry :=
  { e with claim := .denied, denyReason := some r, answerTimer := 0, resent := false }

/-- A DENY at the matched entry (R121). -/
def denyEntry (r : DenyReason) (e : Entry) (s : State) : State :=
  match e.claim with
  | .granted => s
  | .released => s
  | .none => s
  | .pending => s.updateEntry e.slot (Entry.deniedFor r)
  | .denied => s.updateEntry e.slot (Entry.deniedFor r)
  | .noRecorder => s.updateEntry e.slot (Entry.deniedFor r)

/-- The deny reason of a decision, none on GRANT. -/
def denyReasonOf : Decision → Option DenyReason
  | .grant => none
  | .denyOverlap _ => some .overlap
  | .denyFull => some .full
  | .denyTooLate => some .tooLate
  | .denyBadRange => some .badRange

/-- The claim unit takes an ANSWER (R118 to R122). -/
def takeAnswer (m : AnswerMsg) (s : State) : State :=
  match matchedEntry m.track m.claimNo s, denyReasonOf m.decision with
  | some e, none => grantEntry m e s
  | some e, some r => denyEntry r e s
  | none, none => s.giveRelease m.track m.claimNo .evict
  | none, some _ => s

end Sys2Proof.Machine
end

