-- ==== Sys2Proof/Machine/Takes.lean ====
section
/-! DEFINITION. The take unit (spec 05): take start, end, abort and unwind, the log and the journal, gate
evidence, MARK, and a desk's collected log. -/

namespace Sys2Proof.Machine

/-! ### The log (R96, R97) -/

/-- The age of a serial: (n - s) mod 65536 (R97). -/
def ageOf (newest serial : Word16) : Nat := (newest - serial).toNat

/-- A record put at the place its age gives it: before the first younger record (R97). -/
def insertAged (newest : Word16) (r : LogRecord) : List LogRecord → List LogRecord
  | [] => [r]
  | x :: xs => if ageOf newest x.serial < ageOf newest r.serial then r :: x :: xs else x :: insertAged newest r xs

/-- The log without the record of a serial. -/
def dropRecord (serial : Word16) (log : List LogRecord) : List LogRecord := log.filter (fun r => r.serial != serial)

/-- Room for the record of a serial just issued, with the displaced record or the absent marker (R96). -/
def makeRoom (serial : Word16) (log : List LogRecord) : List LogRecord × Option LogRecord :=
  if log.any (fun r => r.serial == serial) then (dropRecord serial log, none)
  else if 32 ≤ log.length then
    match log.find? (fun r => r.result != .inFlight) with
    | some r => (dropRecord r.serial log, some r)
    | none => (log, none)
  else (log, none)

/-- The record of a serial. -/
def State.recordOf (serial : Word16) (s : State) : Option LogRecord := s.takes.log.find? (fun r => r.serial == serial)

/-- The record of a serial is changed in place. -/
def State.updateRecord (serial : Word16) (f : LogRecord → LogRecord) (s : State) : State :=
  { s with takes := { s.takes with log := s.takes.log.map (fun r => if r.serial == serial then f r else r) } }

/-- The journal record of a serial is emptied (R106). -/
def State.dropJournal (serial : Word16) (s : State) : State :=
  { s with takes := { s.takes with journal := s.takes.journal.filter (fun j => j.serial != serial) } }

/-! ### Take start (R94, R95) -/

/-- The record a take starts with (R95 step 5). -/
def startRecord (serial : Word16) (slot : Nat) (c : Cue) (e : Entry) (offSpeed : Bool) : LogRecord :=
  { serial := serial, slot := slot, cueId := c.cueId, take := c.takeCount + 1, result := .inFlight,
    offSpeed := offSpeed, start := e.marks.punchIn, stop := none, circled := false }

/-- A journal record whose displaced record bears a serial issued again: it puts no record back, since the serials in
the log are distinct (R96, R97; the model's choice, notes/assumptions/28.md). -/
def JournalRecord.forget (serial : Word16) (j : JournalRecord) : JournalRecord :=
  if j.displaced.any (fun r => r.serial == serial) then { j with displaced := none } else j

/-- The take unit after steps 1, 2, 3 and 5 of R95. -/
def startLog (slot : Nat) (c : Cue) (e : Entry) (offSpeed : Bool) (t : TakeUnit) : TakeUnit :=
  { t with
    serial := t.serial + 1#16
    log := (makeRoom (t.serial + 1#16) t.log).1 ++ [startRecord (t.serial + 1#16) slot c e offSpeed]
    journal := t.journal.map (JournalRecord.forget (t.serial + 1#16)) ++
      [{ serial := t.serial + 1#16, slot := slot, takeCount := c.takeCount, lastResult := c.lastResult,
         displaced := (makeRoom (t.serial + 1#16) t.log).2 }] }

/-- A take starts (R95). -/
def startTake (slot : Nat) (c : Cue) (e : Entry) (s : State) : State :=
  (({ s with takes := startLog slot c e (decide (s.ref.transport = Transport.vari)) s.takes }).updateCue slot
    (fun x => { x with takeCount := c.takeCount + 1, lastResult := some .inFlight })).updateEntry slot
    (fun x => { x with take := .running, serial := some (s.takes.serial + 1#16) })

/-- The punch-in mark reaches the take unit: the first case of R94 that fits. -/
def punchInTake (slot : Nat) (s : State) : State :=
  match s.entryOf slot, s.cueAt slot with
  | some e, some c =>
    if c.track = none then s
    else if e.stoodDown then s
    else if e.take ≠ .idle then s
    else if 99 ≤ c.takeCount then (releaseLimit slot s).updateEntry slot (fun x => { x with take := .limit })
    else if 2 ≤ s.running.length then (releaseLimit slot s).updateEntry slot (fun x => { x with take := .skipped })
    else startTake slot c e s
  | _, _ => s

/-! ### Take end, keep and unwind (R100 to R105) -/

/-- The TAKE_NOTE of a record (R102). -/
def noteOf (r : LogRecord) : TakeNoteMsg :=
  { slot := byte r.slot, cueId := r.cueId, take := byte r.take, serial := r.serial, result := r.result,
    offSpeed := r.offSpeed, start := BitVec.ofNat 24 r.start, stop := BitVec.ofNat 24 (r.stop.getD 0) }

/-- A TAKE_NOTE for the record of a serial is queued (R102). -/
def giveNote (serial : Word16) (s : State) : State :=
  match s.recordOf serial with
  | some r => s.give 0#4 (.takeNote (noteOf r))
  | none => s

/-- A take is closed with a result and an end frame: log, slot, journal, entry, TAKE_NOTE, TAKE_END (R101, R104). -/
def closeTake (result : TakeResult) (stop : Nat) (slot : Nat) (serial : Word16) (s : State) : State :=
  (giveNote serial
    ((((s.updateRecord serial (fun r => { r with result := result, stop := some stop })).updateCue slot
      (fun c => { c with lastResult := some result })).dropJournal serial).updateEntry slot
      (fun e => { e with take := .ended }))).setFlag .takeEnd

/-- The result of a take at its punch-out mark (R100). -/
def endResult (e : Entry) : TakeResult :=
  if e.claim = .released then .notRecorded
  else if e.gateCut then .cut
  else if e.gateSeenOpen then .recorded
  else .notRecorded

/-- The punch-out mark reaches the take unit: a RUNNING take ends (R100, R101). -/
def punchOutTake (slot : Nat) (s : State) : State :=
  match s.entryOf slot with
  | some e =>
    match e.take, e.serial with
    | .running, some serial => closeTake (endResult e) e.marks.punchOut slot serial s
    | _, _ => s
  | none => s

/-- The log after an unwind: the take's own record removed, its displaced record put back (R105 step 1); that the record
put back bears no serial of the log is seen to at a take start (notes/assumptions/28.md). -/
def unwindLog (newest : Word16) (j : JournalRecord) (log : List LogRecord) : List LogRecord :=
  match j.displaced with
  | some r => insertAged newest r (dropRecord j.serial log)
  | none => dropRecord j.serial log

/-- A take is undone through its journal record (R105). -/
def unwindTake (slot : Nat) (serial : Word16) (s : State) : State :=
  match s.takes.journal.find? (fun j => j.serial == serial) with
  | some j =>
    ((({ s with takes := { s.takes with log := unwindLog s.takes.serial j s.takes.log } }).updateCue slot
      (fun c => { c with lastResult := j.lastResult, takeCount := j.takeCount })).dropJournal serial).updateEntry slot
      (fun e => { e with take := .ended, serial := none })
  | none => s

/-- The causes of an abort (R103). -/
inductive TakeCause where
  | transport | roomAbort | deselect | engine | muted
deriving DecidableEq, Repr

/-- Whether the abort itself releases the claim (R103). -/
def causeReleases : TakeCause → Bool
  | .transport => true
  | .roomAbort => true
  | .deselect => false
  | .engine => false
  | .muted => true

/-- A take in flight is kept ABORTED after its cue-in mark, and unwound before it (R103, R104, R105). -/
def stopTake (e : Entry) (serial : Word16) (s : State) : State :=
  if e.isCrossed .cueIn then closeTake .aborted s.ref.position e.slot serial s else unwindTake e.slot serial s

/-- The take of a slot's entry is aborted where it is in flight (R103). -/
def abortTake (cause : TakeCause) (slot : Nat) (s : State) : State :=
  match s.entryOf slot with
  | some e =>
    match e.take, e.serial with
    | .running, some serial =>
      if causeReleases cause then releaseClaim .abort slot (stopTake e serial s) else stopTake e serial s
    | _, _ => s
  | none => s

/-- Every take in flight is aborted, in entry order (R103). -/
def abortTakes (cause : TakeCause) (s : State) : State :=
  (s.entries.map Entry.slot).foldl (fun t slot => abortTake cause slot t) s

/-- A boundary in VARI sets off-speed for the takes in flight (R99). -/
def markOffSpeed (s : State) : State :=
  if s.ref.transport = .vari then
    { s with takes := { s.takes with
        log := s.takes.log.map (fun r => if r.result == .inFlight then { r with offSpeed := true } else r) } }
  else s

/-! ### Gate evidence (R98) -/

/-- An entry after a GATE that names it. -/
def Entry.evidence (ev : GateEvent) (e : Entry) : Entry :=
  match ev with
  | .opened => { e with gateSeenOpen := true }
  | .cut _ => { e with gateCut := true }
  | .closed _ => e

/-- The take unit takes a GATE (R98). -/
def gateEvidence (m : GateMsg) (s : State) : State :=
  if m.claimant = s.straps.address.zeroExtend 8 then
    match matchedEntry m.track m.claimNo s with
    | some e => s.updateEntry e.slot (Entry.evidence m.event)
    | none => s
  else s

/-! ### MARK (R108, R109) -/

/-- The records that a MARK names, oldest first. -/
def markedRecords (m : MarkMsg) (s : State) : List LogRecord :=
  s.takes.log.filter (fun r => r.slot == m.slot.toNat && r.take == m.take.toNat)

/-- The slot's circled take after an accepted MARK (R109). -/
def circleCue (m : MarkMsg) (r : LogRecord) (c : Cue) : Cue :=
  if c.cueId = r.cueId then
    if m.circle then { c with circled := m.take.toNat }
    else if c.circled = m.take.toNat then { c with circled := 0 }
    else c
  else c

/-- A MARK is judged and carried out: the REPLY result and the station after it (R108, R109). -/
def markTake (m : MarkMsg) (s : State) : State × ReplyResult :=
  match (markedRecords m s).getLast? with
  | none => (s, .notFound)
  | some r =>
    if r.result = .inFlight then (s, .inFlight)
    else
      ((s.updateRecord r.serial (fun x => { x with circled := m.circle })).updateCue m.slot.toNat (circleCue m r), .accepted)

/-! ### The desk's collected log (R110) -/

/-- The desk's log with one more note: at 32 records the oldest is dropped. -/
def appendNote (n : NoteRecord) (log : List NoteRecord) : List NoteRecord :=
  if log.length < 32 then log ++ [n] else log.drop 1 ++ [n]

/-- A desk takes a TAKE_NOTE (R110). -/
def takeDeskNote (source : Addr) (m : TakeNoteMsg) (s : State) : State :=
  ({ s with takes := { s.takes with deskLog := appendNote { source := source, note := m } s.takes.deskLog } }).setFlag
    .takeEnd

end Sys2Proof.Machine
end

