-- ==== Sys2Proof/Machine/Outputs.lean ====
section
/-! DEFINITION. The cue outputs (spec 04): keying, streamers, flash, sweep, beeps, light and the room gate view. -/

namespace Sys2Proof.Machine

/-! ### Keying (R71 to R77) -/

/-- Cue keying is permitted (R73). -/
def State.keyingPermitted (s : State) : Bool := s.activeBooth && lockHolds s.ref.lock && settled s.ref.transport

/-- The streamer formula of R75: the column for e sub-frame steps of a bar of L frames. -/
def barColumn (W L e : Nat) : Nat := e * W / (L * 256)

/-- The columns of a bar at column x, clipped at the right edge (R76); the end is excluded. -/
def barRange (p : Profile) (x : Nat) : Nat × Nat := (x, min (x + barWidthOf p) (widthOf p))

/-- The sub-frame term s of R75: the sub-frame count in PLAY, 0 otherwise. -/
def State.subTerm (s : State) : Nat := if s.ref.transport = .play then s.subFrame else 0

/-- The column of a drawn slot's bar with a sub-frame term (R75). -/
def State.columnOf (sub : Nat) (slot : Nat) (s : State) : Nat :=
  match s.cueAt slot with
  | some c =>
    barColumn (widthOf s.straps.profile) c.streamer.toNat
      (fwd s.day (back s.day c.cueIn c.streamer.toNat) s.ref.position * 256 + sub)
  | none => 0

/-- The sweep bar's column (R80). -/
def sweepColumn (p : Profile) (counter : Nat) : Nat := barColumn (widthOf p) 48 (counter * 256)

/-- The raster line is in the active range of the profile (R71). -/
def State.lineActive (s : State) : Bool :=
  decide (firstActiveOf s.straps.profile ≤ s.rasterLine ∧ s.rasterLine ≤ lastActiveOf s.straps.profile)

/-- The column ranges fixed at a counted line pulse: the first source of R72 that applies, on active lines only. -/
def State.keyedRanges (s : State) : List (Nat × Nat) :=
  if s.lineActive then
    if s.out.sweep then [barRange s.straps.profile (sweepColumn s.straps.profile s.out.sweepCounter)]
    else if s.keyingPermitted && s.out.flash then [(0, widthOf s.straps.profile)]
    else if s.keyingPermitted && s.out.resumed then
      s.out.drawn.map (fun slot => barRange s.straps.profile (s.columnOf s.subTerm slot))
    else []
  else []

/-- The set of keyed columns is fixed for the raster line (R72). -/
def State.fixKeyed (s : State) : State := { s with out := { s.out with keyed := s.keyedRanges } }

/-! ### Drawn entries (R74) -/

/-- An entry put among eligible ones by its distance to cue-in, after those as near (R74). -/
def insertNearest (x : Nat × Nat) : List (Nat × Nat) → List (Nat × Nat)
  | [] => [x]
  | y :: ys => if x.1 < y.1 then x :: y :: ys else y :: insertNearest x ys

/-- The eligible entries, nearest to their cue-in first, as (distance, slot); ties in entry order (R74). -/
def State.eligible (s : State) : List (Nat × Nat) :=
  (s.entries.filter (fun e => e.phase == .streaming)).foldl
    (fun acc e => insertNearest (fwd s.day s.ref.position e.marks.cueIn, e.slot) acc) []

/-- The slots drawn: at most the two nearest of the eligible entries (R74). -/
def State.nearestTwo (s : State) : List Nat := (s.eligible.take 2).map Prod.snd

/-! ### Beeps (R81, R82, R83) -/

/-- A beep interval covers a position (R81). -/
def BeepInterval.coversPos (D p : Nat) (b : BeepInterval) : Bool := covers D b.mark (onward D b.mark b.duration) p

/-- The BEEP level of R82. -/
def State.beepLevel (s : State) : Bool :=
  s.activeBooth && rolling s.ref.transport && s.out.beeps.any (BeepInterval.coversPos s.day s.ref.position)

/-- The intervals of a slot are discarded (R83). -/
def State.dropBeeps (slot : Nat) (s : State) : State :=
  { s with out := { s.out with beeps := s.out.beeps.filter (fun b => b.slot != slot) } }

/-- A beep mark of a slot's entry that is not stood down adds an interval (R81). -/
def beepMark (slot mark : Nat) (s : State) : State :=
  match s.entryOf slot, s.cueAt slot with
  | some e, some c =>
    if e.stoodDown then s
    else
      { s with out := { s.out with
          beeps := s.out.beeps ++ [{ slot := slot, mark := mark, duration := c.beepDur.toNat }] } }
  | _, _ => s

/-- The intervals that do not cover a position are discarded (R83). -/
def agedBeeps (p : Nat) (s : State) : State :=
  { s with out := { s.out with beeps := s.out.beeps.filter (BeepInterval.coversPos s.day p) } }

/-! ### Flash and sweep (R78, R79) -/

/-- A cue-in mark sets flash, but not while the sweep is on (R78). -/
def flashMark (s : State) : State := { s with out := { s.out with flash := !s.out.sweep } }

/-- The cue outputs at the start of a frame boundary: flash cleared, the sweep counter advanced (R78, R79). -/
def newFrameOutputs (o : Outputs) : Outputs :=
  { o with flash := false, sweepCounter := if o.sweep then (o.sweepCounter + 1) % 48 else o.sweepCounter }

/-- A SWEEP request with on set (R79). -/
def sweepOn (o : Outputs) : Outputs :=
  { o with sweep := true, sweepCounter := if o.sweep then o.sweepCounter else 0, flash := false }

/-- A SWEEP request with off set: cue keying resumes from the next boundary (R79; notes/assumptions/15.md). -/
def sweepOff (o : Outputs) : Outputs := { o with sweep := false, resumed := o.resumed && !o.sweep }

/-! ### The light (R84, R85, R86, R91) -/

/-- An entry counts as a cue phase for the light (R84 case 2). -/
def Entry.cueing (e : Entry) : Bool := !e.stoodDown && (e.phase == .streaming || e.phase == .speaking)

/-- An entry counts as standby for the light (R84 case 3). -/
def Entry.onStandby (e : Entry) : Bool := !e.stoodDown && e.phase == .standby

/-- The LIGHT state of R84; outside an ACTIVE booth it is OFF (R86, R91). -/
def State.lightLevel (s : State) : Light :=
  if s.activeBooth then
    if !s.out.gateView.isEmpty then .quiet
    else if s.entries.any Entry.cueing && settled s.ref.transport then .cue
    else if s.entries.any Entry.onStandby then .standby
    else .off
  else .off

/-! ### Judging the outputs -/

/-- BEEP and LIGHT are judged and driven (R82, R85). -/
def State.judgeLevels (s : State) : State :=
  { s with out := { s.out with beep := s.beepLevel, light := s.lightLevel } }

/-- The drawn entries at an event between boundaries: emptied with flash where keying is not permitted (R73), chosen
again where drawing has resumed, and otherwise only left by entries that are no longer eligible (R74). -/
def State.redraw (s : State) : State :=
  if s.keyingPermitted then
    if s.out.resumed then { s with out := { s.out with drawn := s.nearestTwo } }
    else { s with out := { s.out with drawn := s.out.drawn.filter (fun slot => s.eligible.any (fun x => x.2 == slot)) } }
  else { s with out := { s.out with drawn := [], flash := false, resumed := false } }

/-- The cue outputs after an event between boundaries (R73, R74, R82, R85). -/
def State.settle (s : State) : State := s.redraw.judgeLevels

/-- The cue outputs after the other blocks have acted on a frame boundary: drawing resumes where keying is
permitted (R73), and the drawn entries are chosen afresh (R74). -/
def State.settleBoundary (s : State) : State :=
  ({ s with out := { s.out with resumed := true } }).settle

/-! ### The room gate view (R87, R88, R89) -/

/-- A pair is added, unless it is present or the view holds 16 (R87). -/
def addPair (pair : Addr × Byte) (view : List (Addr × Byte)) : List (Addr × Byte) :=
  if view.any (fun x => x == pair) then view else if view.length < 16 then view ++ [pair] else view

/-- A pair is removed (R88). -/
def dropPair (pair : Addr × Byte) (view : List (Addr × Byte)) : List (Addr × Byte) := view.filter (fun x => x != pair)

/-- The view after a GATE from a recorder (R87, R88); a track above 15 is no global track (notes/assumptions/11.md). -/
def viewAfterGate (room : BitVec 2) (source : Addr) (m : GateMsg) (view : List (Addr × Byte)) : List (Addr × Byte) :=
  if 16 ≤ m.track.toNat then view
  else
    match m.event with
    | .opened => if m.room = room.zeroExtend 8 then addPair (source, m.track) view else dropPair (source, m.track) view
    | .closed _ => dropPair (source, m.track) view
    | .cut _ => dropPair (source, m.track) view

/-- The cue outputs take a GATE (R87, R88). -/
def gateToView (source : Addr) (m : GateMsg) (s : State) : State :=
  { s with out := { s.out with gateView := viewAfterGate s.straps.room source m s.out.gateView } }

/-- The pairs of a lost peer leave the view (R89). -/
def viewPeerLost (a : Addr) (s : State) : State :=
  { s with out := { s.out with gateView := s.out.gateView.filter (fun x => x.1 != a) } }

end Sys2Proof.Machine
end

