-- ==== Sys2Proof/Machine/Lookahead.lean ====
section
/-! DEFINITION. The lookahead (spec 03): marks, phases, candidates, recomputation, the taking of marks,
rebuild, standing down and removal. -/

namespace Sys2Proof.Machine

/-! ### Marks, phases and keys (R46, R48, R51, R56) -/

/-- The lead of a cue (R46). -/
def leadOf (F : Nat) (c : Cue) : Nat := max (max c.streamer.toNat (c.beepCount.toNat * F)) c.pre.toNat + 2 * F

/-- The beep mark k, present where the cue has k beeps or more (R46). -/
def beepMarkOf (D F : Nat) (c : Cue) (k : Nat) : Option Nat :=
  if k ≤ c.beepCount.toNat then some (back D c.cueIn (k * F)) else none

/-- The marks of a cue (R46). -/
def marksOf (p : Profile) (c : Cue) : Marks :=
  { windowOpen := back (dayOf p) c.cueIn (leadOf (fpsOf p) c)
    beep3 := beepMarkOf (dayOf p) (fpsOf p) c 3
    beep2 := beepMarkOf (dayOf p) (fpsOf p) c 2
    beep1 := beepMarkOf (dayOf p) (fpsOf p) c 1
    streamerStart := if c.streamer.toNat = 0 then none else some (back (dayOf p) c.cueIn c.streamer.toNat)
    punchIn := back (dayOf p) c.cueIn c.pre.toNat
    cueIn := c.cueIn
    cueOut := c.cueOut
    punchOut := onward (dayOf p) c.cueOut c.post.toNat }

/-- The position of a mark, none where the mark is absent. -/
def Marks.at (m : Marks) : MarkKind → Option Nat
  | .windowOpen => some m.windowOpen
  | .beep3 => m.beep3
  | .beep2 => m.beep2
  | .beep1 => m.beep1
  | .streamerStart => m.streamerStart
  | .punchIn => some m.punchIn
  | .cueIn => some m.cueIn
  | .cueOut => some m.cueOut
  | .punchOut => some m.punchOut

/-- The nine mark kinds in the coincidence order of R47. -/
def allMarks : List MarkKind :=
  [.windowOpen, .beep3, .beep2, .beep1, .streamerStart, .punchIn, .cueIn, .cueOut, .punchOut]

/-- The window of an entry covers p. -/
def Marks.windowCovers (D p : Nat) (m : Marks) : Bool := covers D m.windowOpen m.punchOut p

/-- The phase of an entry at position p (R48). -/
def phaseAt (D p : Nat) (m : Marks) : Phase :=
  if m.windowCovers D p then
    if fwd D m.windowOpen p < fwd D m.windowOpen (m.streamerStart.getD m.cueIn) then .standby
    else if fwd D m.windowOpen p < fwd D m.windowOpen m.cueIn then .streaming
    else if fwd D m.windowOpen p < fwd D m.windowOpen m.cueOut then .speaking
    else .tail
  else .waiting

/-- The take state of a new entry or of a new pass: LATE or IDLE (R56). -/
def freshTake (D p : Nat) (m : Marks) : TakeState :=
  if m.windowCovers D p && decide (fwd D m.windowOpen m.punchIn ≤ fwd D m.windowOpen p) then .late else .idle

/-- The key: the signed delta from the position to window open (R51). -/
def keyOf (D p : Nat) (m : Marks) : Int := signedDelta D p m.windowOpen

/-- A slot with these marks is a candidate at p, its LOADED and selected flags apart (R50). -/
def reachable (D p : Nat) (m : Marks) : Bool := m.windowCovers D p || ahead D p m.windowOpen

/-! ### Candidates and entry order (R50, R51) -/

/-- A keyed slot put in ascending key, after equal keys. -/
def insertKeyed (x : Int × Nat) : List (Int × Nat) → List (Int × Nat)
  | [] => [x]
  | y :: ys => if x.1 < y.1 then x :: y :: ys else y :: insertKeyed x ys

/-- The key of a slot that is a candidate, none otherwise (R50). -/
def State.candidateKey (slot : Nat) (s : State) : Option Int :=
  match s.cueAt slot with
  | some c =>
    if c.selected && reachable s.day s.ref.position (marksOf s.straps.profile c) then
      some (keyOf s.day s.ref.position (marksOf s.straps.profile c))
    else none
  | none => none

/-- The candidates in candidate order: ascending key, then ascending slot (R51). -/
def State.candidates (s : State) : List Nat :=
  ((List.range 128).foldl (fun acc slot =>
    match s.candidateKey slot with
    | some k => insertKeyed (k, slot) acc
    | none => acc) []).map Prod.snd

/-- An entry put at its place in entry order: ascending key, then ascending slot (R51). -/
def insertEntry (e : Entry) : List Entry → List Entry
  | [] => [e]
  | x :: xs => if e.key < x.key ∨ (e.key = x.key ∧ e.slot < x.slot) then e :: x :: xs else x :: insertEntry e xs

/-- Entries with the keys of position p, put in entry order (R51). -/
def rekeyed (D p : Nat) (es : List Entry) : List Entry :=
  (es.map (fun e => { e with key := keyOf D p e.marks })).foldl (fun acc e => insertEntry e acc) []

/-- The keys of the entries at the position held, and the entry order they give (R51; notes/assumptions/13.md). -/
def refreshKeys (s : State) : State := { s with entries := rekeyed s.day s.ref.position s.entries }

/-! ### Eviction and creation (R54, R55) -/

/-- An entry leaves the lookahead: its beep intervals are discarded and it leaves the drawn entries (R74, R83). -/
def removeEntry (slot : Nat) (s : State) : State :=
  { s with
    entries := s.entries.filter (fun e => e.slot != slot)
    out := { s.out with
      beeps := s.out.beeps.filter (fun b => b.slot != slot)
      drawn := s.out.drawn.filter (fun x => x != slot) } }

/-- An entry is evicted (R54). -/
def evict (slot : Nat) (s : State) : State := removeEntry slot (releaseClaim .evict slot s)

/-- A new entry of a cue at the position held, before its claim (R55). -/
def freshEntry (p : Profile) (pos slot : Nat) (c : Cue) : Entry :=
  { slot := slot, key := keyOf (dayOf p) pos (marksOf p c), marks := marksOf p c,
    phase := phaseAt (dayOf p) pos (marksOf p c), crossed := 0#9, stoodDown := false, claim := .none, claimNo := none,
    denyReason := none, answerTimer := 0, resent := false, take := freshTake (dayOf p) pos (marksOf p c),
    serial := none, gateSeenOpen := false, gateCut := false }

/-- A new entry is created and, where its slot has a track, claims it (R55, R114). -/
def createEntry (slot : Nat) (s : State) : State :=
  match s.cueAt slot with
  | some c =>
    newClaim slot { s with entries := insertEntry (freshEntry s.straps.profile s.ref.position slot c) s.entries }
  | none => s

/-! ### Recomputation (R52, R53) -/

/-- A recomputation runs in a booth while the station is ACTIVE and the transport is not NO_REF (R52). -/
def State.recomputes (s : State) : Bool := s.activeBooth && s.ref.transport != .noRef

/-- The slots of the new set: the RUNNING entries, then candidates until there are four (R53). -/
def State.newSet (s : State) : List Nat :=
  s.running.map Entry.slot ++
    (s.candidates.filter (fun slot => !(s.running.any (fun e => e.slot == slot)))).take (4 - s.running.length)

/-- The set of entries made anew: keys, then evictions in entry order, then creations in entry order (R53 to R55). -/
def reform (s : State) : State :=
  ((refreshKeys s).newSet.filter (fun slot => !(refreshKeys s).inLookahead slot)).foldl (fun t slot => createEntry slot t)
    ((((refreshKeys s).entries.map Entry.slot).filter (fun slot => !((refreshKeys s).newSet.contains slot))).foldl
      (fun t slot => evict slot t) (refreshKeys s))

/-- A recomputation, where one runs (R52). -/
def recompute (s : State) : State := if s.recomputes then reform s else s

/-- Every entry's phase is set from the position held (R49). -/
def setPhases (s : State) : State :=
  { s with entries := s.entries.map (fun e => { e with phase := phaseAt s.day s.ref.position e.marks }) }

/-! ### Rebuild (R63, R64) -/

/-- A kept entry at a rebuild: flags cleared, and a new take state where no take runs (R64). -/
def Entry.newPass (D p : Nat) (e : Entry) : Entry :=
  if e.take = .running then { e with crossed := 0#9, stoodDown := false }
  else
    { e with crossed := 0#9, stoodDown := false, take := freshTake D p e.marks, serial := none,
             gateSeenOpen := false, gateCut := false }

/-- The claim of an entry is made again at a rebuild: DENIED, NO_RECORDER or RELEASED, with take state IDLE (R64). -/
def Entry.claimsAgain (e : Entry) : Bool :=
  e.take == .idle && (e.claim == .denied || e.claim == .noRecorder || e.claim == .released)

/-- A rebuild acts on a kept entry (R64). -/
def rebuildEntry (slot : Nat) (s : State) : State :=
  match (s.updateEntry slot (Entry.newPass s.day s.ref.position)).entryOf slot with
  | some e =>
    if e.claimsAgain then newClaim slot (s.updateEntry slot (Entry.newPass s.day s.ref.position))
    else s.updateEntry slot (Entry.newPass s.day s.ref.position)
  | none => s

/-- The lookahead rebuilds: the new set, then the kept entries in entry order, the beep intervals discarded and the
phases set (R64, R83; notes/assumptions/14.md). -/
def rebuild (s : State) : State :=
  setPhases
    ((((recompute s).entries.map Entry.slot).filter (fun slot => s.inLookahead slot)).foldl (fun t slot => rebuildEntry slot t)
      { recompute s with out := { (recompute s).out with beeps := [] } })

/-! ### Taking marks (R59 to R62) -/

/-- The punch-out mark: the take ends, the claim is released DONE, the entry is removed (R62). -/
def retire (slot : Nat) (s : State) : State := removeEntry slot (releaseClaim .done slot (punchOutTake slot s))

/-- The action of a mark at its position (R61). -/
def markAction (slot pos : Nat) : MarkKind → State → State
  | .windowOpen, s => s
  | .beep3, s => beepMark slot pos s
  | .beep2, s => beepMark slot pos s
  | .beep1, s => beepMark slot pos s
  | .streamerStart, s => s
  | .punchIn, s => punchInTake slot s
  | .cueIn, s => flashMark s
  | .cueOut, s => s
  | .punchOut, s => retire slot s

/-- A mark of a slot's entry is taken where it lies `j` frames after `o` and its flag is clear (R59, R60). -/
def takeMark (o j slot : Nat) (k : MarkKind) (s : State) : State :=
  match s.entryOf slot with
  | some e =>
    match e.marks.at k with
    | some m =>
      if fwd s.day o m = j ∧ e.isCrossed k = false then markAction slot m k (s.updateEntry slot (Entry.cross k)) else s
    | none => s
  | none => s

/-- The marks at one distance are taken: in entry order across entries, in coincidence order within one (R60). -/
def takeMarksAt (o j : Nat) (slots : List Nat) (s : State) : State :=
  slots.foldl (fun t slot => allMarks.foldl (fun u k => takeMark o j slot k u) t) s

/-- The marks of a boundary with old position o and a delta of 1 or 2 are taken (R59, R60). -/
def takeMarks (o : Nat) (d : Int) (s : State) : State :=
  if d = 2 then takeMarksAt o 2 (s.entries.map Entry.slot) (takeMarksAt o 1 (s.entries.map Entry.slot) s)
  else takeMarksAt o 1 (s.entries.map Entry.slot) s

/-! ### The lookahead at a boundary (R58) -/

/-- The kind of a frame boundary (R22). -/
inductive BoundaryKind where
  | accepted | synthesized
deriving DecidableEq, Repr

/-- What the reference unit publishes of a boundary, or of an entry to UNLOCKED between boundaries, which has no kind
(R19, R22). -/
structure Report where
  kind           : Option BoundaryKind
  lock           : Lock
  lockBefore     : Lock
  transport      : Transport
  before         : Transport
  positionBefore : Nat
  position       : Nat
  delta          : Option Int
  jump           : Bool
deriving DecidableEq, Repr

/-- The transport has left PLAY or VARI (R103, R136). -/
def Report.leftPlay (r : Report) : Bool := rolling r.before && !rolling r.transport

/-- The boundary is a rebuild boundary (R63). -/
def Report.rebuilds (r : Report) : Bool :=
  settled r.transport && !settled r.before

/-- The delta of a boundary whose marks are taken: 1 or 2 in PLAY or VARI (R58 step 3). -/
def Report.markDelta (r : Report) : Option Int :=
  if rolling r.transport && !r.jump && (r.delta == some 1 || r.delta == some 2) then r.delta else none

/-- The lookahead of an ACTIVE booth acts on a boundary report (R58). -/
def lookaheadBoundary (r : Report) (s : State) : State :=
  if lockHolds r.lock then
    if r.rebuilds then rebuild s
    else
      match r.markDelta with
      | some d => setPhases (recompute (takeMarks r.positionBefore d s))
      | none => setPhases (recompute s)
  else s

/-! ### Standing down and removal (R66, R67, R68, R70) -/

/-- An entry is stood down: its open claim is released ABORT and its beep intervals are discarded (R65, R66, R83). -/
def standDown (slot : Nat) (s : State) : State :=
  ((releaseClaim .abort slot s).updateEntry slot (fun e => { e with stoodDown := true })).dropBeeps slot

/-- Every running take is aborted, in entry order, each releasing its claim; then every entry is stood down (R66, R103). -/
def standAllDown (s : State) : State :=
  (s.entries.map Entry.slot).foldl (fun t slot => standDown slot t) (abortTakes .roomAbort s)

/-- The RELEASE messages for the open claims, in entry order (R124). -/
def State.openReleases (reason : ReleaseReason) (s : State) : List Message :=
  (s.entries.filter (fun e => claimOpen e.claim)).filterMap (fun e => s.releaseOf reason e)

/-- The lookahead of a booth takes an ABORT for its room (R66): the running takes aborted, the entries stood down, the
RELEASE messages of both in entry order as R124 queues them (notes/assumptions/29.md), and the recomputation. -/
def abortLookahead (s : State) : State :=
  recompute ((standAllDown s).orderUrgent (s.line.queue.countP (fun m => m.cls == 0)) (s.openReleases .abort))

/-- The entry of a deselected slot is removed (R67). -/
def deselectEntry (slot : Nat) (s : State) : State :=
  removeEntry slot (releaseClaim .evict slot (abortTake .deselect slot s))

/-- The lookahead is emptied at an ENGINE reset (R70). -/
def emptyForEngine (s : State) : State :=
  ((abortTakes .engine s).entries.map Entry.slot).foldl (fun t slot => removeEntry slot (releaseClaim .reset slot t))
    (abortTakes .engine s)

/-- The lookahead is emptied on the entry to MUTED, without RELEASE for the claims (R68). -/
def emptyForMuted (s : State) : State :=
  { abortTakes .muted s with entries := [] }

end Sys2Proof.Machine
end

