-- ==== Sys2Proof/Machine/Recorder.lean ====
section
/-! DEFINITION. The reservation unit of a recorder (spec 07): judging claims, the gates of the own tracks,
protection cuts, removals and expiry. -/

namespace Sys2Proof.Machine

/-! ### Reservations (R127, R128) -/

/-- The claim that a reservation was granted for, on its track (R127). -/
def Reservation.isFor (claimant : Addr) (claimNo : Byte) (r : Reservation) : Bool :=
  r.claimant == claimant && r.claimNo == claimNo

/-- Two reservations of one track are the same (R127). -/
def Reservation.same (a b : Reservation) : Bool := b.isFor a.claimant a.claimNo

/-- A reservation covers a position (R12). -/
def Reservation.coversPos (D p : Nat) (r : Reservation) : Bool := covers D r.f1 r.f2 p

/-- Two ranges overlap: either covers the other's start (R128). -/
def rangesOverlap (D a1 a2 b1 b2 : Nat) : Bool := covers D a1 a2 b1 || covers D b1 b2 a1

/-- A reservation inserted before the first whose F1 lies further ahead of the position (R128). Where movement has left
the table out of that order, R128's two conditions can conflict, and the model keeps the first
(notes/assumptions/30.md). -/
def insertReservation (D p : Nat) (r : Reservation) : List Reservation → List Reservation
  | [] => [r]
  | x :: xs => if fwd D p r.f1 < fwd D p x.f1 then r :: x :: xs else x :: insertReservation D p r xs

/-! ### The gate (R133, R134, R135) -/

/-- The covering reservation whose F1 lies furthest behind, the earlier of equals (R133). -/
def betterNamed (D p : Nat) (best : Option Reservation) (r : Reservation) : Option Reservation :=
  if r.coversPos D p then
    match best with
    | some b => if fwd D b.f1 p < fwd D r.f1 p then some r else some b
    | none => some r
  else best

/-- The reservation that a table gives a gate at a position (R133). -/
def coveringReservation (D p : Nat) (table : List Reservation) : Option Reservation :=
  table.foldl (betterNamed D p) none

/-- The reservation that the gate of a track names as the station stands, none where it is CLOSED (R133). -/
def State.gateNamed (t : Track) (s : State) : Option Reservation :=
  if s.active && rolling s.ref.transport then coveringReservation s.day s.ref.position t.table else none

/-- A GATE for an own track and a reservation, with the position held, is queued (R135). -/
def giveGate (i : Nat) (ev : GateEvent) (r : Reservation) (s : State) : State :=
  s.give 0#4 (.gate
    { track := globalTrack s.straps.role i, event := ev, claimant := r.claimant.zeroExtend 8, claimNo := r.claimNo,
      room := r.room, position := BitVec.ofNat 24 s.ref.position })

/-- The GATE messages of a gate that stays open under another reservation (R135). -/
def announceHandover (i : Nat) (a b : Reservation) (s : State) : State :=
  if a.claimant = b.claimant then giveGate i .opened b s else giveGate i .opened b (giveGate i (.closed .ended) a s)

/-- The GATE messages for a named reservation before and after, with the reason of a closing (R135). -/
def announceGate (i : Nat) (reason : GateReason) (before after : Option Reservation) (s : State) : State :=
  match before, after with
  | none, none => s
  | none, some b => giveGate i .opened b s
  | some a, none => giveGate i (.closed reason) a s
  | some a, some b => if a.same b then s else announceHandover i a b s

/-- The gate of an own track is evaluated (R134). -/
def evaluateTrack (reason : GateReason) (i : Nat) (s : State) : State :=
  match s.tracks[i]? with
  | some t => announceGate i reason t.named (s.gateNamed t) (s.setTrack i { t with named := s.gateNamed t })
  | none => s

/-- The places of the own tracks, in track order. -/
def ownPlaces : List Nat := List.range 8

/-- Every own track is evaluated, in track order (R134). -/
def evaluateTracks (s : State) : State := ownPlaces.foldl (fun t i => evaluateTrack .ended i t) s

/-! ### Cuts (R136, R139, R144) -/

/-- A table without a reservation. -/
def withoutReservation (r : Reservation) (table : List Reservation) : List Reservation :=
  table.filter (fun x => !(r.same x))

/-- An OPEN gate of an own track is cut and its named reservation removed; GATE_CUT is set (R136). -/
def cutTrack (reason : GateReason) (i : Nat) (s : State) : State :=
  match s.tracks[i]? with
  | some t =>
    match t.named with
    | some r =>
      (giveGate i (.cut reason) r (s.setTrack i { named := none, table := withoutReservation r t.table })).setFlag .gateCut
    | none => s
  | none => s

/-- Every OPEN gate is cut, in track order (R136). -/
def cutTracks (reason : GateReason) (s : State) : State := ownPlaces.foldl (fun t i => cutTrack reason i t) s

/-- The reason of a protection cut (R136). -/
def protectionReason (transport : Transport) : GateReason := if transport = .noRef then .refLost else .transport

/-- A track without the reservations of an address; a gate that named one of them is CLOSED (R139). -/
def Track.without (a : Addr) (t : Track) : Track :=
  { named := t.named.filter (fun r => r.claimant != a), table := t.table.filter (fun r => r.claimant != a) }

/-- The named reservation of a track that leaves at the loss of an address (R139). -/
def Track.lostNamed (a : Addr) (t : Track) : Option Reservation := t.named.filter (fun r => r.claimant == a)

/-- A gate whose named reservation is lost is cut with PEER_LOST, and GATE_CUT is set (R139). -/
def cutLost (i : Nat) (lost : Option Reservation) (s : State) : State :=
  match lost with
  | some r => (giveGate i (.cut .peerLost) r s).setFlag .gateCut
  | none => s

/-- An own track at a peer loss: the reservations of the address leave, a gate that named one of them is cut, and the
track is evaluated (R134, R139). -/
def peerLostTrack (a : Addr) (i : Nat) (s : State) : State :=
  match s.tracks[i]? with
  | some t => evaluateTrack .ended i (cutLost i (t.lostNamed a) (s.setTrack i (t.without a)))
  | none => s

/-- The reservation unit at a peer loss (R139). -/
def reservationsPeerLost (a : Addr) (s : State) : State := ownPlaces.foldl (fun t i => peerLostTrack a i t) s

/-- The tracks with every table empty and every gate CLOSED (R142, R144). -/
def emptyTracks : List Track := List.replicate 8 { named := none, table := [] }

/-- The recorder at an ENGINE reset: open gates cut with RESET, then the tables emptied (R144). -/
def engineTracks (s : State) : State := { cutTracks .reset s with tracks := emptyTracks }

/-! ### Expiry and the boundary (R134, R140) -/

/-- The reservation lies 60 to D/2 frames behind the position (R140). -/
def Reservation.expired (D p : Nat) (r : Reservation) : Bool := decide (60 ≤ fwd D r.f2 p ∧ fwd D r.f2 p ≤ D / 2)

/-- A track after the expiry at a position: the OPEN reservation is not examined (R140). -/
def Track.expire (D p : Nat) (t : Track) : Track :=
  { t with table := t.table.filter (fun r => t.named.any (fun n => n.same r) || !(r.expired D p)) }

/-- Every own track is examined for expiry at a position (R140). -/
def expireTracks (p : Nat) (s : State) : State := { s with tracks := s.tracks.map (Track.expire s.day p) }

/-- The protection cut of a report whose transport has left PLAY or VARI (R136). -/
def protect (r : Report) (s : State) : State :=
  if r.leftPlay then cutTracks (protectionReason r.transport) s else s

/-- The reservation unit of an ACTIVE recorder acts on a boundary report: cut, expiry, evaluation (R134). -/
def reservationBoundary (r : Report) (s : State) : State :=
  evaluateTracks (if lockHolds r.lock then expireTracks r.position (protect r s) else protect r s)

/-! ### Judging a claim (R129 to R132) -/

/-- The first reservation of another claimant that overlaps a claimed range (R131). -/
def conflictOf (D : Nat) (source : Addr) (f1 f2 : Nat) (table : List Reservation) : Option Reservation :=
  table.find? (fun r => r.claimant != source && rangesOverlap D f1 f2 r.f1 r.f2)

/-- A claimed range is one a recorder may grant (R130 check 2). -/
def rangeGood (D f1 f2 : Nat) : Bool := decide (f1 < D ∧ f2 < D ∧ 1 ≤ fwd D f1 f2 ∧ fwd D f1 f2 ≤ 9120)

/-- The decision on a CLAIM for an own track: the first check of R130 that holds. -/
def claimDecision (D p : Nat) (source : Addr) (m : ClaimMsg) (table : List Reservation) : Decision :=
  if table.any (Reservation.isFor source m.claimNo) then .grant
  else if !rangeGood D m.f1.toNat m.f2.toNat then .denyBadRange
  else if covers D m.f1.toNat m.f2.toNat p then .denyTooLate
  else
    match conflictOf D source m.f1.toNat m.f2.toNat table with
    | some r => .denyOverlap (r.claimant.zeroExtend 8)
    | none => if 4 ≤ table.length then .denyFull else .grant

/-- The reservation of a CLAIM (R127), with the room byte as carried: no rule refuses a room above 3
(notes/assumptions/31.md). -/
def reservationOf (source : Addr) (m : ClaimMsg) : Reservation :=
  { claimant := source, claimNo := m.claimNo, room := m.room, cueId := m.cueId, f1 := m.f1.toNat, f2 := m.f2.toNat }

/-- The table after a CLAIM has been decided (R130). -/
def tableAfterClaim (D p : Nat) (source : Addr) (m : ClaimMsg) (table : List Reservation) : List Reservation :=
  if table.any (Reservation.isFor source m.claimNo) then table
  else if claimDecision D p source m table = .grant then insertReservation D p (reservationOf source m) table
  else table

/-- A recorder judges a CLAIM: the table change, the ANSWER to the claimant, the evaluation (R129, R132). -/
def takeClaim (source : Addr) (m : ClaimMsg) (s : State) : State :=
  match ownTrack s.straps.role m.track with
  | some i =>
    match s.tracks[i]? with
    | some t =>
      evaluateTrack .ended i
        ((s.setTrack i { t with table := tableAfterClaim s.day s.ref.position source m t.table }).give source
          (.answer
            { claimNo := m.claimNo, track := m.track,
              decision := claimDecision s.day s.ref.position source m t.table }))
    | none => s
  | none => s

/-! ### RELEASE and ABORT (R137, R138) -/

/-- A recorder takes a RELEASE (R137). -/
def takeRelease (source : Addr) (m : ReleaseMsg) (s : State) : State :=
  match ownTrack s.straps.role m.track with
  | some i =>
    match s.tracks[i]? with
    | some t =>
      if t.table.any (Reservation.isFor source m.claimNo) then
        evaluateTrack .release i
          (s.setTrack i { t with table := t.table.filter (fun r => !(r.isFor source m.claimNo)) })
      else s
    | none => s
  | none => s

/-- The room of an ABORT takes in a room number carried in a CLAIM (R138). -/
def abortNames (room : AbortRoom) (r : Byte) : Bool :=
  match room with
  | .room x => r == x.zeroExtend 8
  | .all => true

/-- A recorder takes an ABORT: removals on every track, then each changed track evaluated (R138). -/
def abortReservations (room : AbortRoom) (s : State) : State :=
  (ownPlaces.filter (fun i => (s.tracks[i]?).any (fun t => t.table.any (fun r => abortNames room r.room)))).foldl
    (fun t i => evaluateTrack .abort i t)
    { s with tracks := s.tracks.map (fun t => { t with table := t.table.filter (fun r => !(abortNames room r.room)) }) }

end Sys2Proof.Machine
end

