-- ==== Sys2Proof/Machine/Reference.lean ====
section
/-! DEFINITION. The reference unit (spec 01) and the publishing of a boundary or of an entry to UNLOCKED to the
other blocks (R22): LINE_PULSE, FRAME_PULSE, POSITION_BIT, LOSS_BY_TIME. -/

namespace Sys2Proof.Machine

/-! ### Deltas, prediction and transport (R16, R20, R21) -/

/-- A delta that is kept in the history (R20). -/
def smallDelta (d : Int) : Bool := decide (-10 ≤ d ∧ d ≤ 10)

/-- The history with one more delta, at most 8 (R20). -/
def appendDelta (d : Int) (h : List Int) : List Int := if h.length < 8 then h ++ [d] else h.drop 1 ++ [d]

/-- The predicted delta of a history (R16). -/
def predictedDelta (h : List Int) : Int :=
  match h.getLast? with
  | some d => if d = 1 ∨ d = 2 then d else 0
  | none => 0

/-- The predicted position (R16). -/
def predictedPosition (D p : Nat) (h : List Int) : Nat := onward D p (predictedDelta h).toNat

/-- The transport of a lock state and a history: the first case of R21 that fits. -/
def classify (l : Lock) (h : List Int) : Transport :=
  if !lockHolds l then .noRef
  else if h.length < 3 then .settling
  else if h.getLast?.any (fun d => decide (d < 0)) then .reverse
  else if h.getLast?.any (fun d => decide (3 ≤ d)) then .shuttle
  else if h.reverse.take 3 = [0, 0, 0] then .stopped
  else if h.reverse.take 4 = [1, 1, 1, 1] then .play
  else .vari

/-! ### The lock at a boundary (R13 to R17, R19) -/

/-- An entry to UNLOCKED in the reference unit itself (R19). -/
def enterUnlocked (r : RefUnit) : RefUnit :=
  { r with lock := .unlocked, runCount := 0, holdoverCount := 0, synthCount := 0, transport := .noRef }

/-- A new position with its delta: kept in the history, or a jump that empties it (R20). -/
def movedTo (n : Nat) (d : Int) (r : RefUnit) : RefUnit :=
  { r with position := n, history := if smallDelta d then appendDelta d r.history else [] }

/-- The reference unit after steps 4 and 5 of R6, and the delta of the boundary. -/
structure LockStep where
  ref   : RefUnit
  delta : Option Int
deriving DecidableEq, Repr

/-- A step that forms no position. -/
def stepStill (r : RefUnit) : LockStep := { ref := r, delta := none }

/-- A step to a position with a delta. -/
def stepTo (n : Nat) (d : Int) (r : RefUnit) : LockStep := { ref := movedTo n d r, delta := some d }

/-- A step to the position of a word (R20). -/
def stepWord (D n : Nat) (r : RefUnit) : LockStep := stepTo n (signedDelta D r.position n) r

/-- A step to the prediction (R16). -/
def stepPredicted (D : Nat) (r : RefUnit) : LockStep :=
  stepTo (predictedPosition D r.position r.history) (predictedDelta r.history) r

/-- A boundary in UNLOCKED (R14). -/
def boundaryUnlocked (accepted : Bool) (r : RefUnit) : LockStep :=
  if accepted then stepStill { r with lock := .acquiring, runCount := 0 } else stepStill r

/-- A boundary in ACQUIRING (R15; notes/assumptions/22.md). -/
def boundaryAcquiring (word : Option Nat) (r : RefUnit) : LockStep :=
  match word with
  | some n =>
    if r.runCount + 1 < 2 then stepStill { r with runCount := r.runCount + 1 }
    else stepStill { r with lock := .locked, runCount := 2, position := n, history := [] }
  | none => stepStill { r with runCount := 0 }

/-- A boundary in LOCKED (R16). -/
def boundaryLocked (D : Nat) (word : Option Nat) (r : RefUnit) : LockStep :=
  match word with
  | some n => stepWord D n r
  | none => stepPredicted D { r with lock := .holdover, holdoverCount := 1 }

/-- A boundary in HOLDOVER (R17). -/
def boundaryHoldover (D : Nat) (word : Option Nat) (r : RefUnit) : LockStep :=
  match word with
  | some n =>
    if n = predictedPosition D r.position r.history then
      stepTo n (predictedDelta r.history) { r with lock := .locked, holdoverCount := 0 }
    else stepWord D n { r with lock := .locked, holdoverCount := 0 }
  | none =>
    if r.holdoverCount < 5 then stepPredicted D { r with holdoverCount := r.holdoverCount + 1 }
    else stepStill (enterUnlocked r)

/-- The boundary applied to the lock state (R13). -/
def lockStep (D : Nat) (accepted : Bool) (word : Option Nat) (r : RefUnit) : LockStep :=
  match r.lock with
  | .unlocked => boundaryUnlocked accepted r
  | .acquiring => if !accepted && r.synthCount == 3 then stepStill (enterUnlocked r) else boundaryAcquiring word r
  | .locked => if !accepted && r.synthCount == 3 then stepStill (enterUnlocked r) else boundaryLocked D word r
  | .holdover => if !accepted && r.synthCount == 3 then stepStill (enterUnlocked r) else boundaryHoldover D word r

/-- The reference unit after steps 1 and 3 of R6, with the counts of an accepted (R4) or synthesized (R5) boundary. -/
def openFrame (accepted : Bool) (r : RefUnit) : RefUnit :=
  { r with
    lineCounter := 0, shiftBits := 0#32, shiftCount := 0, frameWord := none
    synthCount := if accepted then 0 else min (r.synthCount + 1) 3
    quietTicks := if accepted then 0 else r.quietTicks }

/-- The lock step of a boundary from the state before it (R6 steps 1 to 5). -/
def State.lockStepOf (accepted : Bool) (s : State) : LockStep :=
  lockStep s.day accepted s.ref.frameWord (openFrame accepted s.ref)

/-- The reference unit after steps 1 to 6 of R6. -/
def State.refAfter (accepted : Bool) (s : State) : RefUnit :=
  { (s.lockStepOf accepted).ref with
    transport := classify (s.lockStepOf accepted).ref.lock (s.lockStepOf accepted).ref.history }

/-- A boundary enters UNLOCKED (R19). -/
def State.losesLock (accepted : Bool) (s : State) : Bool :=
  s.ref.lock != .unlocked && (s.refAfter accepted).lock == .unlocked

/-- The reference unit's own part of a boundary, with its flags (R6, R7, R19). -/
def refBoundary (accepted : Bool) (s : State) : State :=
  (({ s with ref := s.refAfter accepted }).setFlagIf (decide (1 ≤ s.ref.shiftCount ∧ s.ref.shiftCount ≤ 31)) .refGlitch).setFlagIf
    (s.losesLock accepted) .refUnlock

/-- The boundary report (R22). -/
def boundaryReport (accepted : Bool) (s : State) : Report :=
  { kind := some (if accepted then .accepted else .synthesized), lock := (s.refAfter accepted).lock,
    lockBefore := s.ref.lock, transport := (s.refAfter accepted).transport, before := s.ref.transport,
    positionBefore := s.ref.position, position := (s.refAfter accepted).position, delta := (s.lockStepOf accepted).delta,
    jump := (s.lockStepOf accepted).delta.any (fun d => !(smallDelta d)) }

/-! ### Publishing (R22) -/

/-- The lock or the transport has changed (R22). -/
def Report.changed (r : Report) : Bool := r.lock != r.lockBefore || r.transport != r.before

/-- An ACTIVE station gives a BEACON for a change of lock or transport (R170). -/
def reportBeacon (r : Report) (s : State) : State := if s.active && r.changed then s.giveBeacon else s

/-- The take unit aborts the takes in flight where the transport has left PLAY or VARI (R103). -/
def transportAbort (r : Report) (s : State) : State := if r.leftPlay then abortTakes .transport s else s

/-- The cue outputs of a booth take a boundary report: in PLAY or VARI the beep intervals are brought up to date (R83). -/
def ageBeeps (r : Report) (s : State) : State := if rolling r.transport then agedBeeps r.position s else s

/-- The blocks of an ACTIVE booth act on a boundary report (R58, R83, R99, R103). R57, R58 and R103 leave open whether
the take unit aborts or the lookahead recomputes first; the model aborts first, which fixes the order of the messages
given and the claim numbers (notes/assumptions/27.md). -/
def boothBoundary (r : Report) (s : State) : State :=
  ageBeeps r (lookaheadBoundary r (transportAbort r (markOffSpeed s)))

/-- The blocks of the latched role act on a boundary report. -/
def roleBoundary (r : Report) (s : State) : State :=
  if s.activeBooth then boothBoundary r s
  else if isRecorder s.straps.role && s.active then reservationBoundary r s
  else s

/-- A boundary report is published (R22): flash and sweep open the new frame (R78, R79), the BEACON is given, the
blocks act, and the outputs are chosen and judged (R74, R82, R85; notes/assumptions/24.md). -/
def publishBoundary (r : Report) (s : State) : State :=
  (roleBoundary r (reportBeacon r { s with out := newFrameOutputs s.out })).settleBoundary

/-- A frame boundary, accepted or synthesized (R6). -/
def frameBoundary (accepted : Bool) (s : State) : State :=
  publishBoundary (boundaryReport accepted s) (refBoundary accepted s)

/-- The report of an entry to UNLOCKED between boundaries (R19, R22). -/
def unlockReport (s : State) : Report :=
  { kind := none, lock := .unlocked, lockBefore := s.ref.lock, transport := .noRef, before := s.ref.transport,
    positionBefore := s.ref.position, position := s.ref.position, delta := none, jump := false }

/-- The blocks of the latched role act on an entry to UNLOCKED between boundaries (R103, R134, R136). -/
def roleUnlock (r : Report) (s : State) : State :=
  if s.activeBooth then transportAbort r s
  else if isRecorder s.straps.role && s.active then evaluateTracks (protect r s)
  else s

/-- An entry to UNLOCKED by loss by time, published at once (R18, R19). -/
def unlockByTime (s : State) : State :=
  (roleUnlock (unlockReport s)
    (reportBeacon (unlockReport s) (({ s with ref := enterUnlocked s.ref }).setFlag .refUnlock))).settle

/-! ### LINE_PULSE (R3, R5, R72) -/

/-- The line counter raised by one, with REF_GLITCH for an excess line pulse (R3). -/
def raiseLine (s : State) : State :=
  ({ s with ref := { s.ref with lineCounter := s.ref.lineCounter + 1 } }).setFlagIf
    (decide (linesOf s.straps.profile ≤ s.ref.lineCounter + 1)) .refGlitch

/-- The line counter has reached the count that synthesizes a boundary (R5). -/
def State.boundaryDue (s : State) : Bool := decide (linesOf s.straps.profile + 4 ≤ s.ref.lineCounter)

/-- A line pulse is counted: the counter, a synthesized boundary where it is due, the keyed columns (R3, R5, R72). -/
def countLine (s : State) : State :=
  (if (raiseLine s).boundaryDue then frameBoundary false (raiseLine s) else raiseLine s).fixKeyed

/-- LINE_PULSE. -/
def execLinePulse (s : State) : Host.Outcome State Fault Refusal := .next (countLine s)

/-! ### FRAME_PULSE (R1, R4) -/

/-- A frame pulse arrives inside its window (R4). -/
def State.pulseAccepted (s : State) : Bool := decide (linesOf s.straps.profile - 4 ≤ s.ref.lineCounter)

/-- The unit re-phased by a frame pulse in UNLOCKED (R4). -/
def rephase (s : State) : State :=
  { s with ref := { s.ref with lineCounter := 0, shiftBits := 0#32, shiftCount := 0, frameWord := none } }

/-- A frame pulse that is not accepted (R4). -/
def refusedPulse (s : State) : State := if s.ref.lock = .unlocked then rephase s else s.setFlag .refGlitch

/-- A frame pulse, alone or on the edge of a line pulse (R1; notes/assumptions/9.md). -/
def takeFramePulse (withLine : Bool) (s : State) : State :=
  if s.pulseAccepted then frameBoundary true s
  else if withLine then countLine (refusedPulse s)
  else refusedPulse s

/-- FRAME_PULSE. -/
def execFramePulse (withLine : Bool) (s : State) : Host.Outcome State Fault Refusal := .next (takeFramePulse withLine s)

/-! ### POSITION_BIT (R7, R8) -/

/-- The word with the bit that arrives at this count (R191). -/
def withBit (count : Nat) (bit : Bool) (w : BitVec 32) : BitVec 32 := if bit then w ||| (1#32 <<< count) else w

/-- The shifter with one more bit (R7). -/
def shiftIn (bit : Bool) (r : RefUnit) : RefUnit :=
  { r with shiftBits := withBit r.shiftCount bit r.shiftBits, shiftCount := r.shiftCount + 1 }

/-- The window of the position word is open (R7). -/
def State.wordWindow (s : State) : Bool :=
  decide (1 ≤ s.ref.lineCounter ∧ s.ref.lineCounter < firstActiveOf s.straps.profile)

/-- A completed word is judged by its timing and for validity (R7, R8; notes/assumptions/10.md). -/
def completeWord (s : State) : State :=
  if s.wordWindow then
    match judgeWord s.straps.profile s.ref.shiftBits with
    | some n => { s with ref := { s.ref with frameWord := some n } }
    | none => s.setFlag .refWordBad
  else s.setFlag .refGlitch

/-- A position bit is taken (R7). -/
def takePositionBit (bit : Bool) (s : State) : State :=
  if s.ref.shiftCount < 31 then { s with ref := shiftIn bit s.ref }
  else if s.ref.shiftCount = 31 then completeWord { s with ref := shiftIn bit s.ref }
  else s.setFlag .refGlitch

/-- POSITION_BIT. -/
def execPositionBit (bit : Bool) (s : State) : Host.Outcome State Fault Refusal := .next (takePositionBit bit s)

/-! ### LOSS_BY_TIME (R18, R19) -/

/-- Loss by time is due: the quiet ticks have reached 10 outside UNLOCKED (notes/assumptions/2.md). -/
def State.lossDue (s : State) : Bool := s.ref.quietTicks == 10 && s.ref.lock != .unlocked

/-- LOSS_BY_TIME. -/
def execLossByTime (s : State) : Host.Outcome State Fault Refusal := .next (if s.lossDue then unlockByTime s else s)

end Sys2Proof.Machine
end

