-- ==== Sys2Proof/Machine/Station.lean ====
section
/-! DEFINITION. The station unit (spec 09): ticks and timers, peers, the address clash, MUTED, and the resets. -/

namespace Sys2Proof.Machine

/-! ### TICK (R18, R116, R169, R171, R173, R175) -/

/-- A peer table entry at a tick: the ticks since heard rise, up to 255 (R175). -/
def Peer.aged (p : Peer) : Peer := { p with ticks := min (p.ticks + 1) 255 }

/-- The station unit at a tick. -/
def StationUnit.ticked (u : StationUnit) : StationUnit :=
  { u with
    prng := prngStep u.prng
    joinTimer := if u.state = .joining then u.joinTimer - 1 else u.joinTimer
    beaconTimer := if u.state = .active then u.beaconTimer - 1 else u.beaconTimer
    peers := u.peers.map Peer.aged }

/-- A tick: every count it drives (notes/assumptions/2.md). -/
def ticked (s : State) : State :=
  { s with
    ref := { s.ref with quietTicks := min (s.ref.quietTicks + 1) 10 }
    entries := s.entries.map Entry.tickTimer
    station := s.station.ticked }

/-- TICK. -/
def execTick (s : State) : Host.Outcome State Fault Refusal := .next (ticked s)

/-! ### Timer expiries (R116, R169, R171) -/

/-- The join timer has run out. -/
def State.joinDue (s : State) : Bool := s.station.state == .joining && s.station.joinTimer == 0

/-- The station enters ACTIVE: its first BEACON, the beacon timer, the outputs judged (R169, R171, R86). -/
def enterActive (s : State) : State :=
  (({ s with station := { s.station with state := .active } }).giveBeacon.setBeaconTimer).settle

/-- JOIN_TIMER_EXPIRY (R169). -/
def execJoinTimerExpiry (s : State) : Host.Outcome State Fault Refusal := .next (if s.joinDue then enterActive s else s)

/-- The beacon timer has run out. -/
def State.beaconDue (s : State) : Bool := s.active && s.station.beaconTimer == 0

/-- BEACON_TIMER_EXPIRY: a BEACON, and the timer with a new draw (R171). -/
def execBeaconTimerExpiry (s : State) : Host.Outcome State Fault Refusal :=
  .next (if s.beaconDue then s.giveBeacon.setBeaconTimer else s)

/-- The answer timer of a slot's entry expires where it is due (R116). -/
def takeAnswerExpiry (slot : Nat) (s : State) : State :=
  match s.entryOf slot with
  | some e => if e.answerDue then answerExpired e s else s
  | none => s

/-- ANSWER_TIMER_EXPIRY (R116). -/
def execAnswerTimerExpiry (slot : Byte) (s : State) : Host.Outcome State Fault Refusal :=
  .next (takeAnswerExpiry slot.toNat s)

/-! ### Peer loss (R175) -/

/-- The peer of an address. -/
def State.peerAt (a : Addr) (s : State) : Option Peer := s.station.peers[a.toNat]?

/-- A peer table entry is due for peer loss: present with 200 ticks since heard. -/
def Peer.lossDue (p : Peer) : Bool := p.present && decide (200 ≤ p.ticks)

/-- The blocks act on the loss of a peer: claims and gate view of a booth, reservations of a recorder (R89, R117, R139). -/
def losePeer (a : Addr) (p : Peer) (s : State) : State :=
  (reservationsPeerLost a (viewPeerLost a (claimsPeerLost p (s.updatePeer a (fun x => { x with present := false }))))).settle

/-- A peer loss is taken where it is due. -/
def takePeerLoss (a : Addr) (s : State) : State :=
  match s.peerAt a with
  | some p => if p.lossDue then losePeer a p s else s
  | none => s

/-- PEER_LOSS (R175). -/
def execPeerLoss (a : Addr) (s : State) : Host.Outcome State Fault Refusal := .next (takePeerLoss a s)

/-! ### Good headers, the address clash and MUTED (R174, R176, R177) -/

/-- The outputs of a station entering MUTED (R86; notes/assumptions/16.md). -/
def mutedOutputs (o : Outputs) : Outputs :=
  { o with drawn := [], resumed := false, flash := false, beeps := [], keyed := if o.sweep then o.keyed else [] }

/-- The station unit on the entry to MUTED: the state and the stopped timers. -/
def mutedStation (u : StationUnit) : StationUnit := { u with state := .muted, joinTimer := 0, beaconTimer := 0 }

/-- The transmit queue emptied. -/
def mutedLine (l : LineUnit) : LineUnit := { l with queue := [], attempt := none }

/-- The booth's part of the entry to MUTED, then the recorder's, then the queue's (R177 steps 1 to 3). -/
def mutedBlocks (s : State) : State :=
  { emptyForMuted s with
    out := mutedOutputs (emptyForMuted s).out
    tracks := emptyTracks
    line := mutedLine (emptyForMuted s).line }

/-- The entry to MUTED (R177). -/
def enterMuted (s : State) : State := (mutedBlocks { s with station := mutedStation s.station }).judgeLevels

/-- An address clash (R176). -/
def addressClash (s : State) : State :=
  match s.station.state with
  | .held => s.setFlag .addrClash
  | .joining => enterMuted (s.setFlag .addrClash)
  | .active => enterMuted (s.setFlag .addrClash)
  | .muted => s.setFlag .addrClash

/-- A peer that has just been heard (R174). -/
def Peer.heard (p : Peer) : Peer := { p with present := true, ticks := 0 }

/-- The source address of a good header reaches the station unit (R151, R174, R176). -/
def takeSource (source : Addr) (s : State) : State :=
  if source = s.straps.address then addressClash s else s.updatePeer source Peer.heard

/-- The source of a good header reaches the station unit; the own address in a header that the station drives itself is
no clash (R151, R176). -/
def handSource (own : Bool) (source : Addr) (s : State) : State :=
  if own && source == s.straps.address then s else takeSource source s

/-! ### Resets (R178) -/

/-- The station unit after a hardware reset, RESTART or CLEAR (R167, R173, R178). -/
def freshStation (k : Straps) : StationUnit :=
  { state := if k.hold then .held else .joining
    joinTimer := if k.hold then 0 else 150
    beaconTimer := 0
    prng := prngSeed k.address
    peers := List.replicate 16 { present := false, info := none, ticks := 0 } }

/-- The receiver after a reset: a frame being received is abandoned, wherever its bits have come to (R165;
notes/assumptions/5.md). -/
def Receiver.afterReset : Receiver → Receiver
  | .awaiting => .awaiting
  | .incoming _ => .abandoned none
  | .taking h => .abandoned (some h)
  | .ignoring => .ignoring
  | .abandoned h => .abandoned h

/-- Every block at its reset values with these straps (R178), the idle count beginning again at 0 (R165); the commands
waiting are not the station's. -/
def freshState (k : Straps) (s : State) : State :=
  { State.reset with
    straps := k
    line := { State.reset.line with receiver := s.line.receiver.afterReset }
    station := freshStation k
    pending := s.pending }

/-- HARDWARE_RESET, with the strap levels sensed when RESETn is released (R166, R178). -/
def execHardwareReset (straps : StrapLevels) (s : State) : Host.Outcome State Fault Refusal :=
  .next (freshState (latchStraps straps) s)

/-- RESET_RESTART (R178, R188). -/
def execResetRestart (straps : StrapLevels) (s : State) : Host.Outcome State Fault Refusal :=
  .next ((freshState (latchStraps straps) s).answerWith .ok [])

/-- RESET_CLEAR (R178, R188). -/
def execResetClear (s : State) : Host.Outcome State Fault Refusal :=
  .next ((freshState s.straps s).answerWith .ok [])

/-- The cue outputs at an ENGINE reset (R92): the gate view is kept. A sweep that was on is turned off without waiting
for a boundary: keying resumes at the next line pulse as R92 says, not after the next boundary as R79 says of a SWEEP
request (the model's choice, notes/assumptions/15.md). -/
def engineOutputs (o : Outputs) : Outputs :=
  { o with drawn := [], flash := false, beeps := [], beep := false, sweep := false, sweepCounter := 0, keyed := [] }

/-- The blocks that an ENGINE reset empties (R70, R92, R112, R126, R144). -/
def engineEmptied (s : State) : State :=
  { engineTracks (emptyForEngine s) with out := engineOutputs (engineTracks (emptyForEngine s)).out }

/-- An ENGINE reset: the blocks emptied, the lookahead recomputed, the outputs judged (R52, R70, R92). -/
def resetEngine (s : State) : State := (recompute (engineEmptied s)).settle

/-- RESET_ENGINE (R188). -/
def execResetEngine (s : State) : Host.Outcome State Fault Refusal := .next ((resetEngine s).answerWith .ok [])

/-! ### RELEASE_HOLD (R168, R189) -/

/-- The station leaves HELD for JOINING (R168). -/
def enterJoining (s : State) : State :=
  ({ s with station := { s.station with state := .joining, joinTimer := 150 } }).settle

/-- RELEASE_HOLD (R189). -/
def execReleaseHold (s : State) : Host.Outcome State Fault Refusal :=
  .next (if s.station.state = .held then (enterJoining s).answerWith .ok [] else s.answerWith .notHeld [])

end Sys2Proof.Machine
end

