-- ==== Sys2Proof/Machine/CueTable.lean ====
section
/-! DEFINITION. The cue table of a booth (spec 02): LOAD, CLEAR, SELECT, DIGEST and their REPLY messages, with MARK,
which is carried the same way (R108). -/

namespace Sys2Proof.Machine

/-! ### Replies (R28, R29) -/

/-- A REPLY to an address is queued (R29). -/
def giveReply (dest : Addr) (r : ReplyMsg) (s : State) : State := s.give dest (.reply r)

/-- A REPLY without optional fields. -/
def plainReply (kind : AnsweredKind) (slot : Byte) (result : ReplyResult) : ReplyMsg :=
  { kind := kind, slot := slot, result := result, clamped := none, digest := none }

/-- A message for a booth's tables at a RECORDER or DESK is answered WRONG_ROLE (R28, R108). -/
def answerWrongRole (kind : AnsweredKind) (dest : Addr) (slot : Byte) (s : State) : State :=
  giveReply dest (plainReply kind slot .wrongRole) s

/-! ### LOAD (R31 to R35) -/

/-- A number brought into a range, with whether it was changed (R33). -/
def clampTo (lo hi : Nat) (b : Byte) : Byte × Bool :=
  if b.toNat < lo then (byte lo, true) else if hi < b.toNat then (byte hi, true) else (b, false)

/-- A streamer length as stored: 0, or 8 to 240 (R33). -/
def clampStreamer (b : Byte) : Byte × Bool := if b.toNat = 0 then (b, false) else clampTo 8 240 b

/-- The clamped-fields set of a LOAD (R33, R194). -/
def clampedSet (m : LoadMsg) : Byte :=
  (if (clampStreamer m.streamer).2 then 1#8 else 0#8) ||| (if (clampTo 0 3 m.beepCount).2 then 2#8 else 0#8) |||
    (if (clampTo 1 4 m.beepDur).2 then 4#8 else 0#8) ||| (if (clampTo 0 60 m.pre).2 then 8#8 else 0#8) |||
    (if (clampTo 0 60 m.post).2 then 16#8 else 0#8) ||| (if (clampTo 0 14 m.textLen).2 then 32#8 else 0#8)

/-- The track of a track byte: none where it is 255 (R193). -/
def trackOfByte (b : Byte) : Option Byte := if b = 255#8 then none else some b

/-- The first refusal condition of R31 that holds, with the counts where the message is not refused. -/
def judgeLoad (m : LoadMsg) (s : State) : Except ReplyResult (Nat × Nat) :=
  if 127 < m.slot.toNat then .error .badSlot
  else
    match countOfLabel s.straps.profile m.inLabel, countOfLabel s.straps.profile m.outLabel with
    | some c, some e =>
      if fwd s.day c e < 1 ∨ 9000 < fwd s.day c e then .error .badRange
      else if 16 ≤ m.track.toNat ∧ m.track.toNat ≤ 254 then .error .badTrack
      else if s.inLookahead m.slot.toNat then .error .busy
      else .ok (c, e)
    | _, _ => .error .badTime

/-- The text of a LOAD as stored: at most 14 bytes (R33). -/
def storedText (m : LoadMsg) : List Byte := m.text.take (clampTo 0 14 m.textLen).1.toNat

/-- The take fields of a slot that a LOAD keeps or starts again (R34). -/
structure TakeFields where
  takeCount  : Nat
  lastResult : Option TakeResult
  circled    : Nat
deriving DecidableEq, Repr

/-- The take fields after a LOAD of this cue id over what the slot held (R34). -/
def keptTakes (cueId : Word16) (old : Option Cue) : TakeFields :=
  match old with
  | some c =>
    if c.cueId = cueId then { takeCount := c.takeCount, lastResult := c.lastResult, circled := c.circled }
    else { takeCount := 0, lastResult := none, circled := 0 }
  | none => { takeCount := 0, lastResult := none, circled := 0 }

/-- The cue that a LOAD stores, over what the slot held (R33, R34). -/
def cueOfLoad (m : LoadMsg) (c e : Nat) (old : Option Cue) : Cue :=
  { selected := true, cueId := m.cueId, inLabel := m.inLabel, outLabel := m.outLabel, cueIn := c, cueOut := e,
    streamer := (clampStreamer m.streamer).1, beepCount := (clampTo 0 3 m.beepCount).1,
    beepDur := (clampTo 1 4 m.beepDur).1, track := trackOfByte m.track, pre := (clampTo 0 60 m.pre).1,
    post := (clampTo 0 60 m.post).1, text := storedText m, takeCount := (keptTakes m.cueId old).takeCount,
    lastResult := (keptTakes m.cueId old).lastResult, circled := (keptTakes m.cueId old).circled }

/-- The REPLY of an accepted LOAD (R33). -/
def loadReply (m : LoadMsg) : ReplyMsg :=
  if clampedSet m = 0#8 then plainReply .load m.slot .accepted
  else { kind := .load, slot := m.slot, result := .clamped, clamped := some (clampedSet m), digest := none }

/-- The lookahead is told of a change of the table, and the outputs follow (R34, R37, R38, R39, R52). -/
def tableChanged (s : State) : State := (recompute s).settle

/-- A booth takes a LOAD (R31 to R34). -/
def takeLoad (source : Addr) (m : LoadMsg) (s : State) : State :=
  match judgeLoad m s with
  | .ok (c, e) =>
    tableChanged
      (giveReply source (loadReply m) (s.setCue m.slot.toNat (some (cueOfLoad m c e (s.cueAt m.slot.toNat)))))
  | .error r => giveReply source (plainReply .load m.slot r) s

/-! ### CLEAR and SELECT (R36 to R39) -/

/-- The first and last slot of a range, none where it is refused BAD_SLOT (R36). -/
def rangeOf (m : RangeMsg) : Option (Nat × Nat) :=
  if m.first.toNat ≤ min m.last.toNat 127 then some (m.first.toNat, min m.last.toNat 127) else none

/-- A slot lies in a range, both ends included. -/
def inRange (range : Nat × Nat) (slot : Nat) : Bool := decide (range.1 ≤ slot ∧ slot ≤ range.2)

/-- The table with every slot of a range changed; `n` is the number of the list's first slot. -/
def mapRange (range : Nat × Nat) (f : Option Cue → Option Cue) (n : Nat) : List (Option Cue) → List (Option Cue)
  | [] => []
  | c :: cs => (if inRange range n then f c else c) :: mapRange range f (n + 1) cs

/-- The slots of a range are changed. -/
def State.changeRange (range : Nat × Nat) (f : Option Cue → Option Cue) (s : State) : State :=
  { s with cues := mapRange range f 0 s.cues }

/-- Some slot of a range is in the lookahead (R37). -/
def State.rangeBusy (range : Nat × Nat) (s : State) : Bool := s.entries.any (fun e => inRange range e.slot)

/-- A booth takes a CLEAR (R36, R37). -/
def takeClear (source : Addr) (m : RangeMsg) (s : State) : State :=
  match rangeOf m with
  | some range =>
    if s.rangeBusy range then giveReply source (plainReply .clear m.first .busy) s
    else tableChanged (giveReply source (plainReply .clear m.first .accepted) (s.changeRange range (fun _ => none)))
  | none => giveReply source (plainReply .clear m.first .badSlot) s

/-- A LOADED slot with its selected flag written; an EMPTY slot stays as it is (R25). -/
def selectSlot (on : Bool) (c : Option Cue) : Option Cue := c.map (fun x => { x with selected := on })

/-- A booth takes a SELECT on (R36, R38). -/
def takeSelectOn (source : Addr) (m : RangeMsg) (s : State) : State :=
  match rangeOf m with
  | some range =>
    tableChanged (giveReply source (plainReply .select m.first .accepted) (s.changeRange range (selectSlot true)))
  | none => giveReply source (plainReply .select m.first .badSlot) s

/-- The entries of the slots of a range are removed, in entry order (R39, R67). -/
def deselectEntries (range : Nat × Nat) (s : State) : State :=
  ((s.entries.map Entry.slot).filter (inRange range)).foldl (fun t slot => deselectEntry slot t) s

/-- A booth takes a SELECT off (R36, R39). -/
def takeSelectOff (source : Addr) (m : RangeMsg) (s : State) : State :=
  match rangeOf m with
  | some range =>
    tableChanged (giveReply source (plainReply .select m.first .accepted)
      (deselectEntries range (s.changeRange range (selectSlot false))))
  | none => giveReply source (plainReply .select m.first .badSlot) s

/-! ### DIGEST (R40 to R42) -/

/-- The byte of a stored track: 255 for none (R41, R193). -/
def trackByte (t : Option Byte) : Byte := t.getD 255#8

/-- The 16 load bytes of a stored cue (R41, R194). -/
def cueLoadBytes (c : Cue) : List Byte :=
  loadBytes c.cueId c.inLabel c.outLabel c.streamer c.beepCount c.beepDur (trackByte c.track) c.pre c.post

/-- The canonical image of a slot (R41). -/
def imageOf (c : Option Cue) : List Byte :=
  match c with
  | some x => [1#8] ++ cueLoadBytes x ++ [byte x.text.length] ++ x.text
  | none => [0#8]

/-- The used count of a DIGEST (R40). -/
def usedCount (m : DigestMsg) : Nat := min m.count.toNat (128 - m.first.toNat)

/-- The digest of a range of slots (R41, R42). -/
def State.digestOf (first used : Nat) (s : State) : Word16 := crc16 (((s.cues.drop first).take used).flatMap imageOf)

/-- The REPLY to a DIGEST (R40). -/
def digestReply (m : DigestMsg) (s : State) : ReplyMsg :=
  if 127 < m.first.toNat then plainReply .digest m.first .badSlot
  else if m.count.toNat = 0 then plainReply .digest m.first .badRange
  else
    { kind := .digest, slot := m.first, result := .accepted, clamped := none,
      digest := some (s.digestOf m.first.toNat (usedCount m), byte (usedCount m)) }

/-- A booth takes a DIGEST (R40). -/
def takeDigest (source : Addr) (m : DigestMsg) (s : State) : State := giveReply source (digestReply m s) s

/-! ### MARK (R108) -/

/-- A booth takes a MARK and answers it (R108). -/
def takeMarkMessage (source : Addr) (m : MarkMsg) (s : State) : State :=
  giveReply source (plainReply .mark m.slot (markTake m s).2) (markTake m s).1

end Sys2Proof.Machine
end

