-- ==== Sys2Proof/Machine/Line.lean ====
section
/-! DEFINITION. The cue line (spec 08): reception and delivery of every message kind, attempts, collisions and
sending. -/

namespace Sys2Proof.Machine

/-! ### Headers and cut-short frames (R148, R149, R151, R176) -/

/-- The receiver's place in the frame on the line; the line is busy with that frame, and the idle count is lost
(R145, R154). -/
def State.withReceiver (r : Receiver) (s : State) : State :=
  { s with line := { s.line with receiver := r, idle := none } }

/-- The idle count after so many further bit times without a dominant half: a busy line is idle from the first of them,
which counts (R145). -/
def quietCount (n : Nat) : Option Nat → Option Nat
  | some k => some (k + n)
  | none => if n = 0 then none else some n

/-- A frame is under way that the station drives or takes: no bit time passes without a dominant half (R145). -/
def State.lineHeld (s : State) : Bool :=
  s.line.attempt.isSome || match s.line.receiver with
    | .taking _ => true
    | .awaiting => false
    | .incoming _ => false
    | .ignoring => false
    | .abandoned _ => false

/-- The receiver after bit times without a dominant half: the rest of a discarded or abandoned frame is over (R148,
R149). -/
def Receiver.afterQuiet (n : Nat) (r : Receiver) : Receiver := if n = 0 then r else .awaiting

/-- So many further bit times pass without a dominant half (R145, R154). -/
def quietLine (n : Nat) (s : State) : State :=
  if s.lineHeld then s
  else { s with line := { s.line with idle := quietCount n s.line.idle, receiver := s.line.receiver.afterQuiet n } }

/-- A header repaired or with a wrong check or parity bit is counted (R148). -/
def countFixed (fixed : Bool) (s : State) : State := if fixed then s.countHdrFixed else s

/-- The header bits on the line agree in every bit with those of the attempt that the frame began with: the station
drove them itself, and a collision can only fall later in the frame (R155, R176; notes/assumptions/25.md). -/
def State.ownHeader (header : BitVec 24) (s : State) : Bool := s.line.receiver == .incoming (some header)

/-- A header arrives and is judged: a good one is taken and its source handed on, a bad one discards the frame (R148,
R151, R176). -/
def receiveHeader (header : BitVec 24) (check : Byte) (s : State) : State :=
  match (judgeHeader header check).good with
  | some h =>
    handSource (s.ownHeader header) (headerSource h)
      ((countFixed (judgeHeader header check).fixed s).withReceiver (.taking h))
  | none => (countFixed (judgeHeader header check).fixed s).countHdrBad.withReceiver .ignoring

/-- Where the receiver stands when the header of an abandoned frame arrives: the frame is followed, not judged (R165). -/
def abandonedHeader (header : BitVec 24) (check : Byte) : Receiver :=
  match (judgeHeader header check).good with
  | some h => .abandoned (some h)
  | none => .ignoring

/-- HEADER_RECEIVED (R148). -/
def execHeaderReceived (header : BitVec 24) (check : Byte) (s : State) : Host.Outcome State Fault Refusal :=
  .next (if s.line.receiver = .abandoned none then s.withReceiver (abandonedHeader header check)
    else receiveHeader header check s)

/-- The byte at a place of a bit sequence, most significant bit first. -/
def byteAt (i : Nat) (bits : List Bool) : Byte := byteOfBits (bits.drop (8 * i))

/-- The 24 header bits of a bit sequence that begins with a preamble (R147, R192). -/
def headerOfBits (bits : List Bool) : BitVec 24 := byteAt 3 bits ++ byteAt 2 bits ++ byteAt 1 bits

/-- A frame cut short after a good header (R149). -/
def cutAfterHeader (h : BitVec 24) (bits : List Bool) (s : State) : State :=
  if bits.length < 56 + 8 * headerLen h then s.countCrcBad else s

/-- A frame cut short after its check byte without its header row: the header is judged from the bits (R148, R149). -/
def cutBeforeRow (bits : List Bool) (s : State) : State :=
  match (judgeHeader (headerOfBits bits) (byteAt 4 bits)).good with
  | some h => cutAfterHeader h bits (receiveHeader (headerOfBits bits) (byteAt 4 bits) s)
  | none => receiveHeader (headerOfBits bits) (byteAt 4 bits) s

/-- A frame cut short after its check byte: by what its header was found to be (R149). -/
def cutLate (bits : List Bool) (s : State) : State :=
  match s.line.receiver with
  | .taking h => cutAfterHeader h bits s
  | .ignoring => s
  | .abandoned _ => s
  | .awaiting => cutBeforeRow bits s
  | .incoming _ => cutBeforeRow bits s

/-- A busy period that ends early is judged by where it ended (R149); an abandoned frame is not (R165). -/
def takeCutShort (bits : List Bool) (s : State) : State :=
  if s.line.receiver = .abandoned none ∨ bits.length < 8 ∨ byteAt 0 bits ≠ 0x5A#8 then s
  else if bits.length < 40 then s.countHdrBad
  else cutLate bits s

/-- CUT_SHORT_FRAME (R149): the bit time that ends the busy period is the first of idle (R145). -/
def execCutShortFrame (bits : List Bool) (s : State) : Host.Outcome State Fault Refusal :=
  .next (quietLine 1 ((takeCutShort bits s).withReceiver .awaiting))

/-! ### Delivery (R151, R152) -/

/-- A frame with this header was abandoned at a reset: it is not judged (R165). -/
def State.abandons (header : BitVec 24) (s : State) : Bool :=
  s.line.receiver == .abandoned none || s.line.receiver == .abandoned (some header)

/-- The header of a judged frame: already taken, or taken now, where the row stands for the whole frame
(notes/assumptions/5.md). -/
def beginFrame (header : BitVec 24) (s : State) : State :=
  if s.line.receiver = .taking header then s else handSource (s.ownHeader header) (headerSource header) s

/-- The header has been taken, and the frame has been judged: the receiver waits for the next. -/
def judgedFrame (header : BitVec 24) (s : State) : State := (beginFrame header s).withReceiver .awaiting

/-- A good frame is delivered to this station (R151). -/
def delivered (own : Addr) (h : FrameHead) (m : Message) : Bool :=
  h.source != own && (isBroadcastKind m || h.dest == own || h.broadcast)

/-- A delivered frame is handed on in a station state (R152). -/
def handedIn (state : StationState) (m : Message) : Bool :=
  match m with
  | .beacon _ => true
  | .claim _ => state == .active
  | .answer _ => state == .active
  | .release _ => state == .active
  | .gate _ => state == .active
  | .abort _ => state == .active
  | .load _ => state == .active
  | .clear _ => state == .active
  | .select _ _ => state == .active
  | .mark _ => state == .active
  | .digest _ => state == .active
  | .reply _ => state == .active
  | .takeNote _ => state == .active

/-- A judged good frame is handed to its owner's action where it is delivered and handed on (R151, R152). -/
def handOn (h : FrameHead) (m : Message) (act : State → State) (s : State) : State :=
  if delivered s.straps.address h m && handedIn s.station.state m then act s else s

/-- A good frame is judged (R149 to R152). -/
def takeFrame (h : FrameHead) (m : Message) (act : State → State) (s : State) : State :=
  if s.abandons (headerOfFrame h m) then s.withReceiver .awaiting
  else handOn h m act (judgedFrame (headerOfFrame h m) s)

/-- An action of one role. -/
def inBooth (act : State → State) (s : State) : State := if s.straps.role = .booth then act s else s

/-- An action of the RECORDER roles. -/
def inRecorder (act : State → State) (s : State) : State := if isRecorder s.straps.role then act s else s

/-- An action of the DESK role. -/
def inDesk (act : State → State) (s : State) : State := if s.straps.role = .desk then act s else s

/-- An action on a frame whose broadcast flag is clear (R27, R108, R118, R161). -/
def ifAddressed (h : FrameHead) (act : State → State) (s : State) : State := if h.broadcast then s else act s

/-- A message for a booth's tables: the booth's action, or the WRONG_ROLE answer (R28, R108). -/
def forTables (kind : AnsweredKind) (h : FrameHead) (slot : Byte) (act : State → State) (s : State) : State :=
  if s.straps.role = .booth then act s else answerWrongRole kind h.source slot s

/-! ### The rows of the thirteen kinds -/

/-- The station unit takes the fields of a BEACON (R174), room byte and position as carried: no rule refuses a room above
3 or a position above 2,591,999 (the model's choice, notes/assumptions/35.md). -/
def storeBeacon (source : Addr) (m : BeaconMsg) (s : State) : State :=
  s.updatePeer source (fun p => { p with info := some m })

/-- BEACON (R174). -/
def execBeacon (h : FrameHead) (m : BeaconMsg) (s : State) : Host.Outcome State Fault Refusal :=
  .next (takeFrame h (.beacon m) (storeBeacon h.source m) s)

/-- CLAIM (R129 to R132). -/
def execClaim (h : FrameHead) (m : ClaimMsg) (s : State) : Host.Outcome State Fault Refusal :=
  .next (takeFrame h (.claim m) (inRecorder (takeClaim h.source m)) s)

/-- ANSWER (R118 to R122). -/
def execAnswer (h : FrameHead) (m : AnswerMsg) (s : State) : Host.Outcome State Fault Refusal :=
  .next (takeFrame h (.answer m) (ifAddressed h (inBooth (takeAnswer m))) s)

/-- RELEASE (R137). -/
def execRelease (h : FrameHead) (m : ReleaseMsg) (s : State) : Host.Outcome State Fault Refusal :=
  .next (takeFrame h (.release m) (inRecorder (takeRelease h.source m)) s)

/-- A booth takes a GATE: the view, then the evidence, and the light judged (R85, R87, R88, R98). -/
def takeGate (source : Addr) (m : GateMsg) (s : State) : State := (gateEvidence m (gateToView source m s)).settle

/-- GATE (R87, R98). -/
def execGate (h : FrameHead) (m : GateMsg) (s : State) : Host.Outcome State Fault Refusal :=
  .next (takeFrame h (.gate m) (inBooth (takeGate h.source m)) s)

/-- An ABORT is for the station's room (R66). -/
def State.abortMine (room : AbortRoom) (s : State) : Bool :=
  match room with
  | .room r => r == s.straps.room
  | .all => true

/-- A booth takes an ABORT (R66). -/
def abortBooth (room : AbortRoom) (s : State) : State := if s.abortMine room then (abortLookahead s).settle else s

/-- An ABORT acts on the owners of the latched role (R66, R138, R153). -/
def takeAbort (room : AbortRoom) (s : State) : State := inRecorder (abortReservations room) (inBooth (abortBooth room) s)

/-- ABORT (R66, R138). -/
def execAbort (h : FrameHead) (room : AbortRoom) (s : State) : Host.Outcome State Fault Refusal :=
  .next (takeFrame h (.abort room) (takeAbort room) s)

/-- LOAD (R27 to R34). -/
def execLoad (h : FrameHead) (m : LoadMsg) (s : State) : Host.Outcome State Fault Refusal :=
  .next (takeFrame h (.load m) (ifAddressed h (forTables .load h m.slot (takeLoad h.source m))) s)

/-- CLEAR (R27, R28, R36, R37). -/
def execClear (h : FrameHead) (m : RangeMsg) (s : State) : Host.Outcome State Fault Refusal :=
  .next (takeFrame h (.clear m) (ifAddressed h (forTables .clear h m.first (takeClear h.source m))) s)

/-- SELECT_ON (R27, R28, R36, R38). -/
def execSelectOn (h : FrameHead) (m : RangeMsg) (s : State) : Host.Outcome State Fault Refusal :=
  .next (takeFrame h (.select m true) (ifAddressed h (forTables .select h m.first (takeSelectOn h.source m))) s)

/-- SELECT_OFF (R27, R28, R36, R39). -/
def execSelectOff (h : FrameHead) (m : RangeMsg) (s : State) : Host.Outcome State Fault Refusal :=
  .next (takeFrame h (.select m false) (ifAddressed h (forTables .select h m.first (takeSelectOff h.source m))) s)

/-- DIGEST (R27, R28, R40). -/
def execDigest (h : FrameHead) (m : DigestMsg) (s : State) : Host.Outcome State Fault Refusal :=
  .next (takeFrame h (.digest m) (ifAddressed h (forTables .digest h m.first (takeDigest h.source m))) s)

/-- MARK (R108, R109). -/
def execMark (h : FrameHead) (m : MarkMsg) (s : State) : Host.Outcome State Fault Refusal :=
  .next (takeFrame h (.mark m) (ifAddressed h (forTables .mark h m.slot (takeMarkMessage h.source m))) s)

/-- A REPLY is placed in the inbox, or dropped with INBOX_OVERRUN (R161). -/
def placeReply (source : Addr) (m : ReplyMsg) (s : State) : State :=
  if s.line.inbox.length < 16 then
    { s with line := { s.line with inbox := s.line.inbox ++ [{ source := source, reply := m }] } }
  else s.setFlag .inboxOverrun

/-- REPLY (R161). -/
def execReply (h : FrameHead) (m : ReplyMsg) (s : State) : Host.Outcome State Fault Refusal :=
  .next (takeFrame h (.reply m) (ifAddressed h (placeReply h.source m)) s)

/-- TAKE_NOTE (R110). -/
def execTakeNote (h : FrameHead) (m : TakeNoteMsg) (s : State) : Host.Outcome State Fault Refusal :=
  .next (takeFrame h (.takeNote m) (inDesk (takeDeskNote h.source m)) s)

/-! ### Frames judged bad (R149, R150) -/

/-- A frame that fails its CRC or its format check; good bytes are not this row's (notes/assumptions/6.md). -/
def takeBadFrame (header : BitVec 24) (payload : List Byte) (crc : Word16) (s : State) : State :=
  match judgeFrame header payload crc with
  | .crcBad => (judgedFrame header s).countCrcBad
  | .formatBad => (judgedFrame header s).setFlag .lineFormat
  | .good _ => s

/-- FRAME_JUDGED_BAD (R149, R150). -/
def execFrameJudgedBad (header : BitVec 24) (payload : List Byte) (crc : Word16) (s : State) :
    Host.Outcome State Fault Refusal :=
  .next (if s.abandons header then s.withReceiver .awaiting else takeBadFrame header payload crc s)

/-! ### Attempts (R146, R154) -/

/-- The gap's base of a class (R154). -/
def gapBase (cls : Nat) : Nat := 20 * (cls + 1)

/-- The gap that the head waits (R154). -/
def State.gapOf (m : TxMsg) (s : State) : Nat := gapBase m.cls + s.straps.address.toNat + m.extra

/-- The BEACON as it is filled at the start of an attempt (R172). -/
def State.beaconNow (s : State) : BeaconMsg :=
  { role := s.straps.role, room := s.straps.room.zeroExtend 8, state := s.station.state, lock := s.ref.lock,
    transport := s.ref.transport, position := BitVec.ofNat 24 s.ref.position }

/-- The destination and message that an attempt with a queued message sends (R146). -/
def State.filled (m : TxMsg) (s : State) : Addr × Message :=
  match m.content with
  | .beacon => (0#4, .beacon s.beaconNow)
  | .fixed dest msg => (dest, msg)

/-- The frame built for a queued message (R146). -/
def State.frameFor (m : TxMsg) (s : State) : List Byte :=
  buildFrame s.straps.address (s.filled m).1 (s.filled m).2

/-- The header of that frame (R146, R176). -/
def State.headerOfAttempt (m : TxMsg) (s : State) : BitVec 24 :=
  headerFor s.straps.address (s.filled m).1 (s.filled m).2

/-- The head as its attempt begins: under attempt, its extra defer back to 0 (R154). -/
def TxMsg.begun (m : TxMsg) : TxMsg := { m with extra := 0, underAttempt := true }

/-- An attempt begins with this head and these messages behind it; the receiver knows the header that is driven (R176). -/
def beginAttempt (m : TxMsg) (rest : List TxMsg) (s : State) : State :=
  { s with line := { s.line with
      queue := m.begun :: rest, attempt := some (s.frameFor m)
      receiver := .incoming (some (s.headerOfAttempt m)), idle := none } }

/-- The line has been idle for the gap of this message (R154). -/
def State.gapRun (m : TxMsg) (s : State) : Bool := s.line.idle.any (fun idle => decide (s.gapOf m ≤ idle))

/-- The head's attempt begins where the station is ACTIVE, no frame is under way and the line has been idle for the gap
(R154). -/
def attemptHead (s : State) : State :=
  match s.line.queue with
  | m :: rest => if s.active && !s.lineHeld && s.gapRun m then beginAttempt m rest s else s
  | [] => s

/-- The line turns busy: a frame has begun, and the idle count is lost (R145, R154). -/
def turnBusy (busy : Bool) (s : State) : State :=
  if busy && !s.lineHeld && s.line.receiver == .awaiting then s.withReceiver (.incoming none) else s

/-- ATTEMPT_START (R154): the quiet bit times are counted in every station state (R145), and the attempt begins where it
may; where it does not, the line may then turn busy (notes/assumptions/4.md, 6.md). -/
def execAttemptStart (time : LineTime) (s : State) : Host.Outcome State Fault Refusal :=
  .next (turnBusy time.busy (attemptHead (quietLine time.quiet s)))

/-! ### Ends of an attempt (R153, R155, R156, R158) -/

/-- The message under attempt. -/
def State.underAttempt (s : State) : Option TxMsg :=
  if s.line.attempt.isSome then s.line.queue.find? TxMsg.underAttempt else none

/-- The attempt ends and its message is changed in place. -/
def keepAttempted (f : TxMsg → TxMsg) (s : State) : State :=
  { s with line := { s.line with
      attempt := none
      queue := s.line.queue.map (fun m => if m.underAttempt then f m else m) } }

/-- The attempt ends and its message leaves the queue. -/
def dropAttempted (s : State) : State :=
  { s with line := { s.line with attempt := none, queue := s.line.queue.filter (fun m => !m.underAttempt) } }

/-- A message after a collision with this back-off draw (R156). -/
def TxMsg.backedOff (r : Nat) (m : TxMsg) : TxMsg :=
  { m with attempts := m.attempts + 1, extra := r * 64, underAttempt := false }

/-- A collision of the message under attempt (R155, R156). -/
def collide (m : TxMsg) (s : State) : State :=
  if m.attempts < 5 then
    (keepAttempted (TxMsg.backedOff (s.drawValue (min (m.attempts + 1) 4))) s.stepPrng).countCollision
  else (dropAttempted s).countCollision.countSendFail

/-- COLLISION (R155): the receiver goes on with the frame on the line; without an attempt it cannot arise
(notes/assumptions/6.md). -/
def execCollision (s : State) : Host.Outcome State Fault Refusal :=
  .next (match s.underAttempt with
    | some m => collide m s
    | none => s)

/-- A BEACON that stays queued after it is sent (R158). -/
def TxMsg.repeated (m : TxMsg) : TxMsg := { m with attempts := 0, extra := 0, repeatMark := false, underAttempt := false }

/-- A BEACON has been sent: it stays or leaves, and the beacon timer is set (R158, R171). -/
def beaconSent (m : TxMsg) (s : State) : State :=
  (if m.repeatMark then keepAttempted TxMsg.repeated s else dropAttempted s).setBeaconTimer

/-- A sent message acts at its own station where it is an ABORT of the panel (R153). -/
def actOwn (origin : Origin) (m : Message) (s : State) : State :=
  match origin, m with
  | .panel, .abort room => takeAbort room s
  | _, _ => s

/-- The message under attempt has been sent (R156; notes/assumptions/26.md). -/
def sentMessage (m : TxMsg) (s : State) : State :=
  match m.content with
  | .beacon => beaconSent m s
  | .fixed _ msg => actOwn m.origin msg (dropAttempted s)

/-- FRAME_SENT (R156); without an attempt it cannot arise (notes/assumptions/6.md). -/
def execFrameSent (s : State) : Host.Outcome State Fault Refusal :=
  .next (match s.underAttempt with
    | some m => (sentMessage m s).withReceiver .awaiting
    | none => s)

end Sys2Proof.Machine
end

