-- ==== Sys2Proof/Machine/Panel.lean ====
section
/-! DEFINITION. The panel port (spec 10) with the records of spec 11: STATUS, READ, POP_INBOX, SEND, ACK_FLAGS,
SET_MASK, SWEEP, BAD_REQUEST, and the ends of a transaction. -/

namespace Sys2Proof.Machine

/-! ### Codes and fields of panel records (R193, R196) -/

/-- Phase codes. -/
def phaseCode : Phase → Byte
  | .waiting => 0#8
  | .standby => 1#8
  | .streaming => 2#8
  | .speaking => 3#8
  | .tail => 4#8

/-- Claim state codes. -/
def claimStateCode : ClaimState → Byte
  | .none => 0#8
  | .pending => 1#8
  | .granted => 2#8
  | .denied => 3#8
  | .noRecorder => 4#8
  | .released => 5#8

/-- Take state codes. -/
def takeStateCode : TakeState → Byte
  | .idle => 0#8
  | .late => 1#8
  | .running => 2#8
  | .ended => 3#8
  | .skipped => 4#8
  | .limit => 5#8

/-- LIGHT codes. -/
def lightCode : Light → Byte
  | .off => 0#8
  | .standby => 1#8
  | .cue => 2#8
  | .quiet => 3#8

/-- The bytes of a number below 65536. -/
def bytesNat16 (n : Nat) : List Byte := bytes16 (BitVec.ofNat 16 n)

/-- A field of a fixed length: the bytes, then zeros. -/
def padTo (n : Nat) (bs : List Byte) : List Byte := bs.take n ++ List.replicate (n - bs.length) 0#8

/-! ### The status record (R196) -/

/-- The running timer (R179). -/
def State.runningTimer (s : State) : Nat :=
  match s.station.state with
  | .joining => s.station.joinTimer
  | .active => s.station.beaconTimer
  | .held => 0
  | .muted => 0

/-- The number of take log records of the latched role (R111). -/
def State.logCount (s : State) : Nat := if s.straps.role = .desk then s.takes.deskLog.length else s.takes.log.length

/-- Offsets 0 to 7: straps, station state, timer. -/
def State.statusStation (s : State) : List Byte :=
  [s.straps.address.zeroExtend 8, roleCode s.straps.role, s.straps.room.zeroExtend 8,
    byte (profileCode s.straps.profile), byteBool s.straps.hold, stateCode s.station.state] ++ bytesNat16 s.runningTimer

/-- Offsets 8 to 16: lock, transport, position, label. -/
def State.statusReference (s : State) : List Byte :=
  [lockCode s.ref.lock, transportCode s.ref.transport] ++ bytesCount s.ref.position ++
    labelBytes (labelOfCount s.straps.profile s.ref.position)

/-- Offsets 17 to 33: flags, mask, ATTN, line counters, depths. No rule assigns bits 14 and 15 of the flag and mask words:
the model shows them 0 (notes/assumptions/36.md). -/
def State.statusLine (s : State) : List Byte :=
  bytes16 (s.flags.zeroExtend 16) ++ bytes16 (s.port.mask.zeroExtend 16) ++ [byteBool s.attn] ++
    bytesNat16 s.line.hdrFixed ++ bytesNat16 s.line.hdrBad ++ bytesNat16 s.line.crcBad ++
    bytesNat16 s.line.collisions ++ bytesNat16 s.line.sendFail ++ [byte s.line.queue.length, byte s.line.inbox.length]

/-- The serials of the takes in flight, in entry order (notes/assumptions/18.md). -/
def State.runningSerials (s : State) : List Byte := s.running.flatMap (fun e => bytes16 (e.serial.getD 0#16))

/-- Offsets 34 to 42: claim counter, take serial counter, log count, takes in flight. -/
def State.statusTakes (s : State) : List Byte :=
  [s.claimCounter] ++ bytes16 s.takes.serial ++ [byte s.logCount, byte s.running.length] ++ padTo 4 s.runningSerials

/-- The summary of an entry (R69). -/
def Entry.summary (e : Entry) : List Byte :=
  [byte e.slot, phaseCode e.phase, claimStateCode e.claim, takeStateCode e.take, byteBool e.stoodDown]

/-- Offsets 43 to 63: the lookahead summary. -/
def State.statusLookahead (s : State) : List Byte :=
  [byte s.entries.length] ++ padTo 20 (s.entries.flatMap Entry.summary)

/-- A drawn entry: slot and column at the frame boundary, with s = 0 (R90). -/
def State.drawnBytes (slot : Nat) (s : State) : List Byte := [byte slot] ++ bytesNat16 (s.columnOf 0 slot)

/-- A pair of the gate view in one byte. -/
def pairByte (pair : Addr × Byte) : Byte := pair.1 ++ pair.2.extractLsb' 0 4

/-- Offsets 64 to 93: the cue outputs (R90). R196 does not say what an unused drawn place holds: the model fills it with
0 (notes/assumptions/33.md). -/
def State.statusOutputs (s : State) : List Byte :=
  [lightCode s.out.light, byteBool s.out.beep, byte s.out.beeps.length, byteBool s.out.sweep, byte s.out.sweepCounter,
    byteBool s.out.flash, byte s.out.drawn.length] ++ padTo 6 (s.out.drawn.flatMap (fun slot => s.drawnBytes slot)) ++
    [byte s.out.gateView.length] ++ padTo 16 (s.out.gateView.map pairByte)

/-- An own track in one byte. R196 assigns bits 6 to 3 nothing: the model shows them 0 (notes/assumptions/36.md). -/
def Track.statusByte (t : Track) : Byte := (if t.named.isSome then 0x80#8 else 0#8) ||| byte t.table.length

/-- Offsets 94 to 101: the own tracks; 0 outside a recorder. -/
def State.statusTracks (s : State) : List Byte :=
  if isRecorder s.straps.role then padTo 8 (s.tracks.map Track.statusByte) else List.replicate 8 0#8

/-- The status record (R181, R196). -/
def State.statusRecord (s : State) : List Byte :=
  s.statusStation ++ s.statusReference ++ s.statusLine ++ s.statusTakes ++ s.statusLookahead ++ s.statusOutputs ++
    s.statusTracks

/-- STATUS (R181). -/
def execStatus (s : State) : Host.Outcome State Fault Refusal := .next (s.answerWith .ok s.statusRecord)

/-! ### Snapshots (R182, R197) -/

/-- A bit of a presence byte; the bits that R197 assigns to no field stay 0 (notes/assumptions/36.md). -/
def presenceBit (i : Nat) (present : Bool) : Nat := if present then 2 ^ i else 0

/-- The byte of an optional take result, 0 where absent (notes/assumptions/36.md). -/
def lastResultByte (r : Option TakeResult) : Byte := (r.map takeResultCode).getD 0#8

/-- The bytes of a LOADED slot after the presence byte. R197 gives the flag bytes no values: the model writes 1 where the
flag is set (notes/assumptions/33.md). -/
def cueBytes (c : Cue) (inLookahead : Bool) : List Byte :=
  [1#8, byteBool c.selected, byteBool inLookahead] ++ cueLoadBytes c ++ bytesCount c.cueIn ++ bytesCount c.cueOut ++
    [byte c.text.length] ++ padTo 14 c.text ++ [byte c.takeCount, lastResultByte c.lastResult, byte c.circled]

/-- The snapshot of a cue slot (R43); the bytes of absent load fields are 0 (notes/assumptions/36.md). -/
def State.cueSnapshot (slot : Nat) (s : State) : List Byte :=
  match s.cueAt slot with
  | some c => [byte (presenceBit 0 true + presenceBit 1 c.lastResult.isSome)] ++ cueBytes c (s.inLookahead slot)
  | none => [0#8, 0#8, 0#8, byteBool (s.inLookahead slot)] ++ List.replicate 40 0#8

/-- The bits of the marks present (R197: the order of R46). -/
def markPresence (m : Marks) : Nat :=
  ((allMarks.filter (fun k => (m.at k).isSome)).map (fun k => 2 ^ markBit k)).foldl (· + ·) 0

/-- The nine marks, an absent one as 0 (notes/assumptions/36.md). -/
def markBytes (m : Marks) : List Byte := allMarks.flatMap (fun k => bytesCount ((m.at k).getD 0))

/-- The presence word of an entry; bits 12 to 15 are 0 (notes/assumptions/36.md). -/
def Entry.presence (e : Entry) : Nat :=
  markPresence e.marks + presenceBit 9 e.claimNo.isSome + presenceBit 10 e.denyReason.isSome +
    presenceBit 11 e.serial.isSome

/-- The cue id of a slot, 0 where it is EMPTY. -/
def State.cueIdOf (slot : Nat) (s : State) : Word16 := ((s.cueAt slot).map Cue.cueId).getD 0#16

/-- The snapshot of an entry (R69); a flag byte is 1 where the flag is set (notes/assumptions/33.md). R197 assigns bits 9 to
15 of the crossed flags nothing: the model shows them 0, as it shows an absent field (notes/assumptions/36.md). -/
def State.entrySnapshot (e : Entry) (s : State) : List Byte :=
  bytesNat16 e.presence ++ [byte e.slot] ++ bytes16 (s.cueIdOf e.slot) ++ bytes24 (BitVec.ofInt 24 e.key) ++
    markBytes e.marks ++ bytes16 (e.crossed.zeroExtend 16) ++
    [phaseCode e.phase, byteBool e.stoodDown, claimStateCode e.claim, e.claimNo.getD 0#8,
      (e.denyReason.map denyCode).getD 0#8, takeStateCode e.take] ++ bytes16 (e.serial.getD 0#16) ++
    [byteBool e.gateSeenOpen, byteBool e.gateCut]

/-- The snapshot of a booth's log record (R111); an absent end frame is 0 (notes/assumptions/36.md). -/
def LogRecord.snapshot (r : LogRecord) : List Byte :=
  [byte (presenceBit 0 r.stop.isSome), 0#8, byte r.slot, 0#8] ++ bytes16 r.serial ++ bytes16 r.cueId ++
    [byte r.take, takeResultCode r.result, byteBool r.offSpeed] ++ bytesCount r.start ++ bytesCount (r.stop.getD 0) ++
    [byteBool r.circled]

/-- The snapshot of a desk's record (R111). -/
def NoteRecord.snapshot (r : NoteRecord) : List Byte :=
  [byte (presenceBit 0 true), 1#8, r.note.slot, r.source.zeroExtend 8] ++ bytes16 r.note.serial ++
    bytes16 r.note.cueId ++ [r.note.take, takeResultCode r.note.result, byteBool r.note.offSpeed] ++
    bytes24 r.note.start ++ bytes24 r.note.stop ++ [0#8]

/-- The snapshots of the take log of the latched role, oldest first. -/
def State.logSnapshots (s : State) : List (List Byte) :=
  if s.straps.role = .desk then s.takes.deskLog.map NoteRecord.snapshot else s.takes.log.map LogRecord.snapshot

/-- The BEACON fields of a peer, zeros where absent (notes/assumptions/36.md). -/
def peerInfoBytes (i : Option BeaconMsg) : List Byte :=
  match i with
  | some m =>
    [roleCode m.role, m.room, stateCode m.state, lockCode m.lock, transportCode m.transport] ++ bytes24 m.position
  | none => List.replicate 8 0#8

/-- The snapshot of a peer table entry (R179); the present byte is 1 where it is set (notes/assumptions/33.md). -/
def Peer.snapshot (p : Peer) : List Byte :=
  [byte (presenceBit 0 p.info.isSome), byteBool p.present] ++ peerInfoBytes p.info ++ [byte p.ticks]

/-- A reservation is the one its track names (R127). -/
def Track.names (t : Track) (r : Reservation) : Bool := t.named.any (fun n => n.same r)

/-- The bytes of a reservation, with its state. -/
def Reservation.snapshot (isOpen : Bool) (r : Reservation) : List Byte :=
  [r.claimant.zeroExtend 8, r.claimNo, r.room] ++ bytes16 r.cueId ++ bytesCount r.f1 ++ bytesCount r.f2 ++
    [byteBool isOpen]

/-- The named claimant and claim number of a track, zeros where its gate is CLOSED (notes/assumptions/36.md). -/
def namedBytes (n : Option Reservation) : List Byte :=
  match n with
  | some r => [r.claimant.zeroExtend 8, r.claimNo]
  | none => [0#8, 0#8]

/-- The snapshot of an own track (R143). R197 gives the gate byte no code: the model writes CLOSED 0 and OPEN 1
(notes/assumptions/33.md). -/
def Track.snapshot (t : Track) : List Byte :=
  [byte (presenceBit 0 t.named.isSome), byteBool t.named.isSome] ++ namedBytes t.named ++ [byte t.table.length] ++
    t.table.flatMap (fun r => r.snapshot (t.names r))

/-- The snapshot at a place of a list, or EMPTY. -/
def placeAnswer (snapshot : Option (List Byte)) : Answer :=
  match snapshot with
  | some body => { status := .ok, body := body }
  | none => { status := .empty, body := [] }

/-- The answer from a table: outside the range of a table that the latched role has it is BAD_INDEX, and from an absent one
it is what the table shows for every index (R69, R111, R143, R182; notes/assumptions/34.md). -/
def indexed (present : Bool) (limit : Nat) (index : Byte) (a : Answer) : Answer :=
  if present && decide (limit ≤ index.toNat) then { status := .badIndex, body := [] } else a

/-- The track snapshot of a global track number, none where it is not one of the station's own (R143). -/
def State.trackSnapshot (track : Byte) (s : State) : Option (List Byte) :=
  ((ownTrack s.straps.role track).bind (fun i => s.tracks[i]?)).map Track.snapshot

/-- The answer to a READ (R182). -/
def State.readAnswer (selector index : Byte) (s : State) : Answer :=
  match selector.toNat with
  | 0 => indexed (s.straps.role == .booth) 128 index (placeAnswer (some (s.cueSnapshot index.toNat)))
  | 1 => indexed (s.straps.role == .booth) 4 index (placeAnswer ((s.entries[index.toNat]?).map (fun e => s.entrySnapshot e)))
  | 2 => indexed (!isRecorder s.straps.role) 32 index (placeAnswer (s.logSnapshots[index.toNat]?))
  | 3 => indexed true 16 index (placeAnswer ((s.station.peers[index.toNat]?).map Peer.snapshot))
  | 4 => indexed (isRecorder s.straps.role) 16 index (placeAnswer (s.trackSnapshot index))
  | _ => { status := .badRequest, body := [] }

/-- An answer is given. -/
def State.giveAnswer (a : Answer) (s : State) : State := s.answerWith a.status a.body

/-- READ (R182). -/
def execRead (selector index : Byte) (s : State) : Host.Outcome State Fault Refusal :=
  .next (s.giveAnswer (s.readAnswer selector index))

/-! ### POP_INBOX (R183) -/

/-- The body of a POP_INBOX answer (R195). -/
def InboxItem.bytes (x : InboxItem) : List Byte := [x.source.zeroExtend 8] ++ payloadOf (.reply x.reply)

/-- The oldest REPLY is removed and answered, or EMPTY. -/
def popInbox (s : State) : State :=
  match s.line.inbox with
  | x :: rest => ({ s with line := { s.line with inbox := rest } }).answerWith .ok x.bytes
  | [] => s.answerWith .empty []

/-- POP_INBOX (R183). -/
def execPopInbox (s : State) : Host.Outcome State Fault Refusal := .next (popInbox s)

/-! ### SEND (R184) -/

/-- The payload length that the layout of a kind the panel may send gives, from the payload's own fields; none for
another kind (R184, R194). A LOAD too short to hold its text length has no right length. -/
def sendLength (kind : Byte) (payload : List Byte) : Option Nat :=
  match kind.toNat with
  | 6 => some 1
  | 7 => some (18 + min ((payload[17]?).getD 0#8).toNat 14)
  | 8 => some 2
  | 9 => some 3
  | 10 => some 3
  | 11 => some 2
  | _ => none

/-- The destination of a SEND is one it may not name (R184 check 4). -/
def badDest (own : Addr) (dest : Byte) (m : Message) : Bool :=
  !isBroadcastKind m && (decide (15 < dest.toNat) || dest == own.zeroExtend 8)

/-- Checks 4 to 6 of R184. -/
def sendMessage (dest : Byte) (m : Message) (s : State) : State × Status :=
  if badDest s.straps.address dest m then (s, .notAllowed)
  else if s.active then panelOffer (dest.extractLsb' 0 4) m s
  else (s, .notActive)

/-- The judgement of a SEND: the first check of R184 that holds. -/
def judgeSend (kind dest : Byte) (payload : List Byte) (s : State) : State × Status :=
  match sendLength kind payload with
  | none => (s, .notAllowed)
  | some n =>
    if payload.length ≠ n then (s, .badLength)
    else
      match messageOf (kind.extractLsb' 0 5) payload with
      | some m => sendMessage dest m s
      | none => (s, .notAllowed)

/-- SEND (R184). -/
def execSend (kind dest : Byte) (payload : List Byte) (s : State) : Host.Outcome State Fault Refusal :=
  .next ((judgeSend kind dest payload s).1.answerWith (judgeSend kind dest payload s).2 [])

/-! ### ACK_FLAGS, SET_MASK, SWEEP (R79, R186, R187, R189) -/

/-- The flags and counters after an ACK_FLAGS word (R186). -/
def ackFlags (word : Word16) (s : State) : State :=
  { s with
    line := if ackCounters word then zeroCounters s.line else s.line
    port := { s.port with sticky := ackSticky word s.port.sticky } }

/-- ACK_FLAGS (R186). -/
def execAckFlags (word : Word16) (s : State) : Host.Outcome State Fault Refusal :=
  .next ((ackFlags word s).answerWith .ok [])

/-- The mask replaced; bits 14 and 15 of the word are ignored (R187). -/
def setMask (word : Word16) (s : State) : State := { s with port := { s.port with mask := word.extractLsb' 0 14 } }

/-- SET_MASK (R187). -/
def execSetMask (word : Word16) (s : State) : Host.Outcome State Fault Refusal :=
  .next ((setMask word s).answerWith .ok [])

/-- A SWEEP request is carried out and answered (R79, R189). -/
def takeSweep (onOff : Byte) (s : State) : State :=
  match boolOfCode onOff with
  | some true => ({ s with out := sweepOn s.out }).answerWith .ok []
  | some false => ({ s with out := sweepOff s.out }).answerWith .ok []
  | none => s.answerWith .badRequest []

/-- SWEEP (R189). -/
def execSweep (onOff : Byte) (s : State) : Host.Outcome State Fault Refusal := .next (takeSweep onOff s)

/-! ### Bad requests and the ends of a transaction (R180) -/

/-- BAD_REQUEST: an unknown code, or a RESET of no level (notes/assumptions/8.md); the bytes are not read. -/
def execBadRequest (_code : Byte) (_rest : List Byte) (s : State) : Host.Outcome State Fault Refusal :=
  .next (s.answerWith .badRequest [])

/-- TRANSACTION_ABANDONED: the request is not taken and has no effect, as R180's text says; its status table names
BAD_REQUEST for a request ended before its last byte. The model follows the text and forms no answer
(notes/assumptions/32.md). -/
def execTransactionAbandoned (_received : List Byte) (s : State) : Host.Outcome State Fault Refusal := .next s.portIdle

/-- TRANSACTION_END: an answer not wholly read is discarded (R180). -/
def execTransactionEnd (s : State) : Host.Outcome State Fault Refusal := .next s.portIdle

end Sys2Proof.Machine
end

