-- ==== Sys2Proof/Machine/Dispatch.lean ====
section
/-! DEFINITION. One arm per command, each one call of its meaning. -/

namespace Sys2Proof.Machine

def exec (i : Instr) (s : State) : Host.Outcome State Fault Refusal :=
  match i with
  -- Resets and panel requests (spec 09, spec 10)
  | .hardwareReset straps => Sys2Proof.Machine.execHardwareReset straps s
  | .status => Sys2Proof.Machine.execStatus s
  | .read selector index => Sys2Proof.Machine.execRead selector index s
  | .popInbox => Sys2Proof.Machine.execPopInbox s
  | .send kind dest payload => Sys2Proof.Machine.execSend kind dest payload s
  | .ackFlags word => Sys2Proof.Machine.execAckFlags word s
  | .setMask word => Sys2Proof.Machine.execSetMask word s
  | .resetRestart straps => Sys2Proof.Machine.execResetRestart straps s
  | .resetClear => Sys2Proof.Machine.execResetClear s
  | .resetEngine => Sys2Proof.Machine.execResetEngine s
  | .releaseHold => Sys2Proof.Machine.execReleaseHold s
  | .sweep onOff => Sys2Proof.Machine.execSweep onOff s
  | .badRequest code rest => Sys2Proof.Machine.execBadRequest code rest s
  | .transactionAbandoned received => Sys2Proof.Machine.execTransactionAbandoned received s
  -- Reference input and station time (spec 01, spec 09)
  | .linePulse => Sys2Proof.Machine.execLinePulse s
  | .framePulse withLine => Sys2Proof.Machine.execFramePulse withLine s
  | .positionBit bit => Sys2Proof.Machine.execPositionBit bit s
  | .tick => Sys2Proof.Machine.execTick s
  | .lossByTime => Sys2Proof.Machine.execLossByTime s
  | .answerTimerExpiry slot => Sys2Proof.Machine.execAnswerTimerExpiry slot s
  | .joinTimerExpiry => Sys2Proof.Machine.execJoinTimerExpiry s
  | .beaconTimerExpiry => Sys2Proof.Machine.execBeaconTimerExpiry s
  | .peerLoss addr => Sys2Proof.Machine.execPeerLoss addr s
  -- Reception (spec 08)
  | .headerReceived header check => Sys2Proof.Machine.execHeaderReceived header check s
  | .cutShortFrame bits => Sys2Proof.Machine.execCutShortFrame bits s
  | .beacon h m => Sys2Proof.Machine.execBeacon h m s
  | .claim h m => Sys2Proof.Machine.execClaim h m s
  | .answer h m => Sys2Proof.Machine.execAnswer h m s
  | .release h m => Sys2Proof.Machine.execRelease h m s
  | .gate h m => Sys2Proof.Machine.execGate h m s
  | .abort h room => Sys2Proof.Machine.execAbort h room s
  | .load h m => Sys2Proof.Machine.execLoad h m s
  | .clear h m => Sys2Proof.Machine.execClear h m s
  | .selectOn h m => Sys2Proof.Machine.execSelectOn h m s
  | .selectOff h m => Sys2Proof.Machine.execSelectOff h m s
  | .digest h m => Sys2Proof.Machine.execDigest h m s
  | .mark h m => Sys2Proof.Machine.execMark h m s
  | .reply h m => Sys2Proof.Machine.execReply h m s
  | .takeNote h m => Sys2Proof.Machine.execTakeNote h m s
  -- Transmission (spec 08) and the end of a transaction (spec 10)
  | .attemptStart time => Sys2Proof.Machine.execAttemptStart time s
  | .collision => Sys2Proof.Machine.execCollision s
  | .frameSent => Sys2Proof.Machine.execFrameSent s
  | .frameJudgedBad header payload crc => Sys2Proof.Machine.execFrameJudgedBad header payload crc s
  | .transactionEnd => Sys2Proof.Machine.execTransactionEnd s

end Sys2Proof.Machine
end

