-- ==== Sys2Proof/Machine/Pins.lean ====
section
/-! DEFINITION. The levels the station drives on its output pins (spec 11 section 11.4), read from State. -/

namespace Sys2Proof.Machine

/-- The pixel clock of the house reference as the cue outputs see it: running, with the pixel clocks begun since the
counted line pulse, or stopped (R71). -/
inductive PixelClock where
  | running (since : Nat)
  | stopped
deriving DecidableEq, Repr

/-- KEY is asserted (R71; notes/assumptions/17.md): at the pixel clock of a keyed column of the line under way, and never
while the pixel clock is stopped. -/
def State.keyAt (clock : PixelClock) (s : State) : Bool :=
  match clock with
  | .running since =>
    s.out.keyed.any (fun r =>
      decide (hsyncOf s.straps.profile + hbackOf s.straps.profile + r.1 ≤ since ∧
        since < hsyncOf s.straps.profile + hbackOf s.straps.profile + r.2))
  | .stopped => false

/-- BEEP, active high. -/
def State.beepPin (s : State) : Bool := s.out.beep

/-- LIGHT_A and LIGHT_B. -/
def State.lightPins (s : State) : Bool × Bool :=
  match s.out.light with
  | .off => (false, false)
  | .standby => (true, false)
  | .cue => (false, true)
  | .quiet => (true, true)

/-- REC0 to REC7: asserted while the gate of the own track is OPEN (R133). -/
def State.recPins (s : State) : List Bool := s.tracks.map (fun t => t.named.isSome)

/-- ATTN is active low: low while ATTN is asserted. -/
def State.attnPinLow (s : State) : Bool := s.attn

/-- The bits of the frame under attempt, as they go onto the cue line (R145). -/
def State.lineBits (s : State) : List Bool :=
  match s.line.attempt with
  | some frame => frameBits frame
  | none => []

/-- The bits of the answer held, as they go onto PDO (R198). -/
def State.answerPinBits (s : State) : List Bool :=
  match s.port.answer with
  | some a => answerBits a
  | none => []

/-- What PDO shows: undriven; driven with a level that carries no answer and that the spec does not give; or a bit of
the answer (R198). -/
inductive PdoLevel where
  | undriven
  | noAnswer
  | answerBit (b : Bool)
deriving DecidableEq, Repr

/-- PDO after this many bits of the answer have been clocked out: driven while PSEL is low, with the answer's bits once
the request has been taken (R180, R198). -/
def State.pdoAt (pselLow : Bool) (n : Nat) (s : State) : PdoLevel :=
  if pselLow then ((s.answerPinBits[n]?).map PdoLevel.answerBit).getD .noAnswer else .undriven

end Sys2Proof.Machine
end

