-- ==== Sys2Proof/Safety.lean ====
section
/-! DEFINITION. The terms that claims use: the invariants that every step keeps, the row of a good frame, and when a
frame reaches its owner. -/

namespace Sys2Proof.Safety

open Sys2Proof.Machine

/-! ### Invariants -/

/-- The reference unit: every count in its range (R3, R5, R7, section 1.7), the position in the day and the history of
at most eight deltas of -10 to +10 (R20), the transport that of R21. -/
abbrev RefInv (s : State) : Prop :=
  s.ref.position < s.day ∧ s.ref.history.length ≤ 8 ∧ (∀ d ∈ s.ref.history, -10 ≤ d ∧ d ≤ 10) ∧
    s.ref.lineCounter < linesOf s.straps.profile + 4 ∧ s.ref.shiftCount ≤ 32 ∧ s.ref.runCount ≤ 2 ∧
    s.ref.holdoverCount ≤ 5 ∧ s.ref.synthCount ≤ 3 ∧ s.ref.quietTicks ≤ 10 ∧
    (s.ref.frameWord.all fun n => decide (n < s.day)) = true ∧ s.ref.transport = classify s.ref.lock s.ref.history

/-- A stored cue lies in the ranges of spec 02 section 2.1, with counts that are those of its labels (R31 to R33). -/
abbrev CueGood (p : Profile) (c : Cue) : Prop :=
  (c.streamer.toNat = 0 ∨ (8 ≤ c.streamer.toNat ∧ c.streamer.toNat ≤ 240)) ∧ c.beepCount.toNat ≤ 3 ∧
    (1 ≤ c.beepDur.toNat ∧ c.beepDur.toNat ≤ 4) ∧ c.pre.toNat ≤ 60 ∧ c.post.toNat ≤ 60 ∧ c.text.length ≤ 14 ∧
    (c.track.all fun t => decide (t.toNat ≤ 15)) = true ∧ countOfLabel p c.inLabel = some c.cueIn ∧
    countOfLabel p c.outLabel = some c.cueOut ∧
    (1 ≤ fwd (dayOf p) c.cueIn c.cueOut ∧ fwd (dayOf p) c.cueIn c.cueOut ≤ 9000)

/-- The cue table: 128 slots, every LOADED one in range (R25, R31 to R34). -/
abbrev CueInv (s : State) : Prop :=
  s.cues.length = 128 ∧ ∀ c ∈ s.cues, (c.all fun x => decide (CueGood s.straps.profile x)) = true

/-- The lookahead: at most four entries, no two of one slot, every one of a LOADED and selected slot, and none outside
an ACTIVE booth (R45). -/
abbrev LookInv (s : State) : Prop :=
  s.entries.length ≤ 4 ∧ (s.entries.map Entry.slot).Nodup ∧
    (∀ e ∈ s.entries, (s.cueAt e.slot).any Cue.selected = true) ∧ (s.entries ≠ [] → s.activeBooth = true)

/-- The serials of the records that the journal would put back (R96, R105). -/
def displacedSerials (journal : List JournalRecord) : List Word16 :=
  journal.filterMap (fun j => j.displaced.map LogRecord.serial)

/-- The take fields: at most two takes in flight (R94), take counts and numbers of 0 to 99 (R26), and at most 32
records in a desk's log (R110). The booth's log holds at most 32 records, oldest first by age (R97), with serials distinct
from each other and from those the journal would put back. The journal holds one record for each take in flight, of its
serial and slot, and the records of the log that are IN_FLIGHT are those of the journal (R93, R106). -/
abbrev TakeInv (s : State) : Prop :=
  s.running.length ≤ 2 ∧ s.takes.deskLog.length ≤ 32 ∧
    (∀ c ∈ s.cues, (c.all fun x => decide (x.takeCount ≤ 99 ∧ x.circled ≤ 99)) = true) ∧
    (∀ r ∈ s.takes.log, r.take ≤ 99) ∧
    (∀ j ∈ s.takes.journal, j.takeCount ≤ 99 ∧
      (j.displaced.all fun r => decide (r.take ≤ 99 ∧ r.result ≠ .inFlight)) = true) ∧
    s.takes.log.length ≤ 32 ∧
    s.takes.log.Pairwise (fun a b => ageOf s.takes.serial b.serial < ageOf s.takes.serial a.serial) ∧
    (s.takes.log.map LogRecord.serial ++ displacedSerials s.takes.journal).Nodup ∧
    s.takes.journal.length = s.running.length ∧ (s.takes.journal.map JournalRecord.serial).Nodup ∧
    (∀ e ∈ s.running, s.takes.journal.any (fun j => e.serial == some j.serial && j.slot == e.slot) = true) ∧
    (∀ j ∈ s.takes.journal, s.takes.log.any (fun r => r.serial == j.serial) = true) ∧
    (∀ r ∈ s.takes.log, (r.result == .inFlight) = s.takes.journal.any (fun j => j.serial == r.serial))

/-- The entries between their creation and their punch-out: the marks are those of the slot, the punch-out has not been
taken, and a RUNNING take has its serial, rolls, stands between its punch-in and its punch-out, and is at most four takes
for each frame since its punch-in old (R46, R59, R62, R94, R100, R103). -/
abbrev FlightInv (s : State) : Prop :=
  (∀ e ∈ s.entries, (s.cueAt e.slot).all (fun c => decide (e.marks = marksOf s.straps.profile c)) = true) ∧
    (∀ e ∈ s.entries, e.isCrossed .punchOut = false) ∧
    (∀ e ∈ s.running, rolling s.ref.transport = true ∧
      fwd s.day e.marks.punchIn s.ref.position < fwd s.day e.marks.punchIn e.marks.punchOut ∧
      (e.serial.any fun n =>
        decide (ageOf s.takes.serial n ≤ 4 * fwd s.day e.marks.punchIn s.ref.position + 3)) = true)

/-- The cue outputs: at most two drawn entries, a sweep counter of 0 to 47, a room gate view of at most 16 different
pairs (R74, R79, R87). -/
abbrev OutInv (s : State) : Prop :=
  s.out.drawn.length ≤ 2 ∧ s.out.sweepCounter ≤ 47 ∧ s.out.gateView.length ≤ 16 ∧ s.out.gateView.Nodup

/-- LIGHT and BEEP stand as R82 and R84 give them from the state as it is (R85). -/
abbrev LevelInv (s : State) : Prop := s.out.light = s.lightLevel ∧ s.out.beep = s.beepLevel

/-- The reservation unit: eight own tracks of at most four reservations each, every gate as R133 gives it from the
state as it stands, and no reservation outside an ACTIVE recorder (R127, R128, R133, R142). -/
abbrev TrackInv (s : State) : Prop :=
  s.tracks.length = 8 ∧
    ∀ t ∈ s.tracks, t.table.length ≤ 4 ∧ t.named = s.gateNamed t ∧
      ((isRecorder s.straps.role && s.active) = false → t.table = [])

/-- No two reservations of different claimants on one track overlap (R128). -/
abbrev BookingInv (s : State) : Prop :=
  ∀ t ∈ s.tracks, ∀ a ∈ t.table, ∀ b ∈ t.table,
    a.claimant ≠ b.claimant → rangesOverlap s.day a.f1 a.f2 b.f1 b.f2 = false

/-- The line unit: a queue of at most 8 messages in ascending class with at most one BEACON, attempt counts of 0 to 5
and extra defers of 0 to 960, one message under attempt where a frame is, an inbox of at most 16, 16-bit counters, and no
idle count while a frame is sent or taken (R145, R154, R158, R161, R162). -/
abbrev LineInv (s : State) : Prop :=
  s.line.queue.length ≤ 8 ∧ s.line.queue.Pairwise (fun a b => a.cls ≤ b.cls) ∧
    (s.line.queue.filter TxMsg.isBeacon).length ≤ 1 ∧
    (∀ m ∈ s.line.queue, m.attempts ≤ 5 ∧ m.extra ≤ 960 ∧ (m.repeatMark = true → m.isBeacon = true)) ∧
    (s.line.queue.filter TxMsg.underAttempt).length = (if s.line.attempt.isSome then 1 else 0) ∧
    s.line.inbox.length ≤ 16 ∧ s.line.hdrFixed ≤ 65535 ∧ s.line.hdrBad ≤ 65535 ∧ s.line.crcBad ≤ 65535 ∧
    s.line.collisions ≤ 65535 ∧ s.line.sendFail ≤ 65535 ∧ (s.lineHeld = true → s.line.idle = none)

/-- Outside ACTIVE the station has nothing to send, no entry, no reservation and no gate open, and its outputs are
inactive (R45, R86, R127, R154, R177). -/
abbrev QuietInv (s : State) : Prop :=
  s.station.state ≠ .active →
    s.line.queue = [] ∧ s.line.attempt = none ∧ s.entries = [] ∧
      (∀ t ∈ s.tracks, t.named = none ∧ t.table = []) ∧ s.out.drawn = [] ∧ s.out.flash = false ∧ s.out.beep = false ∧
      s.out.light = .off

/-- A block absent in the latched role keeps its reset values and holds its outputs inactive (spec 00 section 0.2,
R91, R127). -/
abbrev RoleInv (s : State) : Prop :=
  (s.straps.role ≠ .booth →
    s.entries = [] ∧ (∀ c ∈ s.cues, c = none) ∧ s.takes.log = [] ∧ s.takes.journal = [] ∧ s.takes.serial = 0#16 ∧
      s.claimCounter = 0#8 ∧ s.out.gateView = [] ∧ s.out.beeps = [] ∧ s.out.drawn = [] ∧ s.out.flash = false ∧
      s.out.beep = false ∧ s.out.light = .off) ∧
  (isRecorder s.straps.role = false → ∀ t ∈ s.tracks, t.named = none ∧ t.table = []) ∧
  (s.straps.role ≠ .desk → s.takes.deskLog = [])

/-- The peer table: sixteen entries with ticks of 0 to 255, that of the station's own address never filled (R174). -/
abbrev PeerInv (s : State) : Prop :=
  s.station.peers.length = 16 ∧ (∀ p ∈ s.station.peers, p.ticks ≤ 255) ∧
    ((s.peerAt s.straps.address).all fun p => !p.present && p.info.isNone) = true

/-- The timers run within their ranges, and only in their station state (R169, R171). -/
abbrev TimerInv (s : State) : Prop :=
  s.station.joinTimer ≤ 150 ∧ s.station.beaconTimer ≤ 115 ∧ (s.station.state ≠ .joining → s.station.joinTimer = 0) ∧
    (s.station.state ≠ .active → s.station.beaconTimer = 0) ∧ (∀ e ∈ s.entries, e.answerTimer ≤ 40)

/-! ### Frames -/

/-- The row of the step table for a good frame of a message. -/
def rowOf (h : FrameHead) : Message → Instr
  | .beacon m => .beacon h m
  | .claim m => .claim h m
  | .answer m => .answer h m
  | .release m => .release h m
  | .gate m => .gate h m
  | .abort room => .abort h room
  | .load m => .load h m
  | .clear m => .clear h m
  | .select m true => .selectOn h m
  | .select m false => .selectOff h m
  | .mark m => .mark h m
  | .digest m => .digest h m
  | .reply m => .reply h m
  | .takeNote m => .takeNote h m

/-- The latched role has an owner that acts on a message of this kind with this broadcast flag (spec 08 section 8.3,
R27, R108, R118, R151, R161). -/
def owned (role : Role) (broadcast : Bool) : Message → Bool
  | .beacon _ => true
  | .claim _ => isRecorder role
  | .answer _ => role == .booth && !broadcast
  | .release _ => isRecorder role
  | .gate _ => role == .booth
  | .abort _ => role == .booth || isRecorder role
  | .load _ => !broadcast
  | .clear _ => !broadcast
  | .select _ _ => !broadcast
  | .mark _ => !broadcast
  | .digest _ => !broadcast
  | .reply _ => !broadcast
  | .takeNote _ => role == .desk

/-- The header of a frame has been taken and the rest of the frame is on its way. -/
def headerTaken (h : FrameHead) (m : Message) (s : State) : Prop := s.line.receiver = .taking (headerOfFrame h m)

/-- A frame whose header has been taken, delivered to an ACTIVE station. -/
def handed (h : FrameHead) (m : Message) (s : State) : Prop :=
  headerTaken h m s ∧ delivered s.straps.address h m = true ∧ s.station.state = .active

/-- The station once a frame has been judged, before its owner acts: the receiver waits for the next frame, and the line
is busy until it falls quiet. -/
def judged (s : State) : State := s.withReceiver .awaiting

/-! ### Boundaries, marks and messages -/

/-- A command is a frame boundary, accepted or synthesized (R4, R5, R6). -/
def boundary (c : Instr) (s : State) : Prop :=
  (∃ withLine, c = .framePulse withLine ∧ linesOf s.straps.profile - 4 ≤ s.ref.lineCounter) ∨
    (c = .linePulse ∧ linesOf s.straps.profile + 4 ≤ s.ref.lineCounter + 1)

/-- Lock, counts, position and history after a boundary, by the lock state before it and the word of the frame (R14 to
R17, R20); a third synthesized boundary in a row is R13's. -/
def lockMoved (accepted : Bool) (s t : State) : Prop :=
  match s.ref.lock, s.ref.frameWord with
  | .unlocked, _ =>
    t.ref.position = s.ref.position ∧ t.ref.history = s.ref.history ∧
      if accepted then t.ref.lock = .acquiring ∧ t.ref.runCount = 0 else t.ref.lock = .unlocked
  | .acquiring, none =>
    t.ref.lock = .acquiring ∧ t.ref.runCount = 0 ∧ t.ref.position = s.ref.position ∧ t.ref.history = s.ref.history
  | .acquiring, some n =>
    if s.ref.runCount = 0 then
      t.ref.lock = .acquiring ∧ t.ref.runCount = 1 ∧ t.ref.position = s.ref.position ∧ t.ref.history = s.ref.history
    else t.ref.lock = .locked ∧ t.ref.position = n ∧ t.ref.history = []
  | .locked, some n =>
    t.ref.lock = .locked ∧ t.ref.position = n ∧
      t.ref.history = (if smallDelta (signedDelta s.day s.ref.position n) then
        appendDelta (signedDelta s.day s.ref.position n) s.ref.history else [])
  | .locked, none =>
    t.ref.lock = .holdover ∧ t.ref.holdoverCount = 1 ∧
      t.ref.position = predictedPosition s.day s.ref.position s.ref.history ∧
      t.ref.history = appendDelta (predictedDelta s.ref.history) s.ref.history
  | .holdover, some n =>
    t.ref.lock = .locked ∧ t.ref.holdoverCount = 0 ∧ t.ref.position = n ∧
      t.ref.history = (if n = predictedPosition s.day s.ref.position s.ref.history then
        appendDelta (predictedDelta s.ref.history) s.ref.history
      else if smallDelta (signedDelta s.day s.ref.position n) then
        appendDelta (signedDelta s.day s.ref.position n) s.ref.history else [])
  | .holdover, none =>
    if s.ref.holdoverCount < 5 then
      t.ref.lock = .holdover ∧ t.ref.holdoverCount = s.ref.holdoverCount + 1 ∧
        t.ref.position = predictedPosition s.day s.ref.position s.ref.history ∧
        t.ref.history = appendDelta (predictedDelta s.ref.history) s.ref.history
    else
      t.ref.lock = .unlocked ∧ t.hasFlag .refUnlock = true ∧ t.ref.position = s.ref.position ∧
        t.ref.history = s.ref.history

/-- A boundary of an ACTIVE booth that moves the position forward by one or two frames and takes marks (R58 step 3). -/
def takesMarks (c : Instr) (s t : State) (d : Nat) : Prop :=
  boundary c s ∧ exec c s = .next t ∧ s.activeBooth = true ∧ (d = 1 ∨ d = 2) ∧ settled s.ref.transport = true ∧
    rolling t.ref.transport = true ∧ t.ref.position = onward s.day s.ref.position d

/-- A boundary that moves the position by d frames takes this mark of an entry (R59). -/
def markHit (s : State) (d : Nat) (e : Entry) (k : MarkKind) : Bool :=
  !e.isCrossed k &&
    (e.marks.at k).any (fun m => decide (0 < fwd s.day s.ref.position m ∧ fwd s.day s.ref.position m ≤ d))

/-- A message given by a block as it stands in the queue: not yet attempted (R159). -/
def newMessage (c : TxContent) (o : Origin) : TxMsg :=
  { content := c, origin := o, attempts := 0, extra := 0, repeatMark := false, underAttempt := false }

/-- A message that a block has given stands in the queue, or a message has been dropped with QUEUE_DROP (R159, R160). -/
def given (t : State) (dest : Addr) (m : Message) : Prop :=
  newMessage (.fixed dest m) .internal ∈ t.line.queue ∨ t.hasFlag .queueDrop = true

/-- Messages of class 0 that an event gives: they stand in the queue in this order, behind those of class 0 that were
there, or a message has been dropped with QUEUE_DROP (R124, R158, R160). -/
def sentInOrder (s t : State) (messages : List Message) : Prop :=
  t.line.queue.filter (fun m => m.cls == 0) =
      s.line.queue.filter (fun m => m.cls == 0) ++ messages.map (fun m => newMessage (.fixed 0#4 m) .internal) ∨
    t.hasFlag .queueDrop = true

/-- The RELEASE messages for the open claims of these entries, in their order (R123, R124). -/
def releasesOf (reason : ReleaseReason) (entries : List Entry) (s : State) : List Message :=
  entries.filterMap fun e =>
    match s.trackOf e.slot, e.claimNo with
    | some track, some n =>
      if e.claim = .pending ∨ e.claim = .granted then some (.release { track := track, claimNo := n, reason := reason })
      else none
    | _, _ => none

/-- The BEACON of a boundary: given where an ACTIVE station's lock or transport has changed, and not otherwise (R22,
R170). -/
def beaconOfChange (s t : State) : Prop :=
  (s.station.state = .active → (t.ref.lock ≠ s.ref.lock ∨ t.ref.transport ≠ s.ref.transport) →
    t.line.queue.any TxMsg.isBeacon = true ∨ t.hasFlag .queueDrop = true) ∧
  (s.station.state ≠ .active ∨ (t.ref.lock = s.ref.lock ∧ t.ref.transport = s.ref.transport) →
    ∀ m ∈ t.line.queue, m.isBeacon = true → m ∈ s.line.queue)

/-- The takes of a boundary's transport: in VARI every take in flight is off-speed (R99). -/
def offSpeedTakes (transport : Transport) (u : TakeUnit) : TakeUnit :=
  if transport = .vari then
    { u with log := u.log.map (fun r => if r.result = .inFlight then { r with offSpeed := true } else r) }
  else u

/-- What the abort of a take in flight leaves, by its journal record and the cue that its slot would hold without it:
after its cue-in mark the take stays ABORTED with TAKE_END (R104), and before it the take is undone, with its displaced
record back (R105). -/
def takeStopped (s t : State) (e : Entry) (j : JournalRecord) (cue : Cue) : Prop :=
  (e.isCrossed .cueIn = true →
    t.cueAt e.slot = some { cue with lastResult := some .aborted } ∧ t.hasFlag .takeEnd = true ∧
      ∀ r ∈ s.takes.log, r.serial = j.serial →
        { r with result := .aborted, stop := some t.ref.position } ∈ t.takes.log) ∧
  (e.isCrossed .cueIn = false →
    t.cueAt e.slot = some { cue with lastResult := j.lastResult, takeCount := j.takeCount } ∧
      (∀ r ∈ t.takes.log, r.serial ≠ j.serial) ∧ ∀ r, j.displaced = some r → r ∈ t.takes.log)

/-- The TAKE_NOTE of a take kept ABORTED is given (R102, R104). -/
def abortNoted (s t : State) (e : Entry) (j : JournalRecord) : Prop :=
  e.isCrossed .cueIn = true → ∀ r ∈ s.takes.log, r.serial = j.serial →
    given t 0#4 (.takeNote
      { slot := byte r.slot, cueId := r.cueId, take := byte r.take, serial := r.serial, result := .aborted
        offSpeed := r.offSpeed, start := BitVec.ofNat 24 r.start, stop := BitVec.ofNat 24 t.ref.position })

/-- The GATE of an own track for a reservation, at the position held (R135). -/
def gateOf (s : State) (i : Nat) (event : GateEvent) (r : Reservation) : Message :=
  .gate
    { track := globalTrack s.straps.role i, event := event, claimant := r.claimant.zeroExtend 8, claimNo := r.claimNo
      room := r.room, position := BitVec.ofNat 24 s.ref.position }

/-- The GATE CUT messages of the OPEN gates whose named reservation is one of these, in track order (R136, R139, R144). -/
def cutsOf (reason : GateReason) (lost : Reservation → Bool) (s : State) : List Message :=
  s.tracks.zipIdx.filterMap fun x => (x.1.named.filter lost).map (gateOf s x.2 (.cut reason))

/-- A reservation is the one that a track's OPEN gate names (R127). -/
def namedBy (x : Track) (r : Reservation) : Bool :=
  x.named.any (fun n => n.claimant == r.claimant && n.claimNo == r.claimNo)

/-! ### Frames of whole steps -/

/-- What a boundary report, or an entry to UNLOCKED, leaves as it was: the straps, the station unit, the desk's log, the
line unit but its queue, and the port but its sticky flags (R22). -/
def keptByReports (s t : State) : Prop :=
  t = { s with
    ref := t.ref, cues := t.cues, entries := t.entries, out := t.out, claimCounter := t.claimCounter, tracks := t.tracks
    takes := { t.takes with deskLog := s.takes.deskLog }
    line := { s.line with queue := t.line.queue }
    port := { s.port with sticky := t.port.sticky } }

/-- What a change of the cue table leaves as it was, where the table and the take unit are those given: all but the
entries, the cue outputs, the claim counter, the queue and the sticky flags. -/
def keptByTable (s t : State) (cues : List (Option Cue)) (takes : TakeUnit) : Prop :=
  t = { judged s with
    cues := cues, entries := t.entries, out := t.out, takes := takes, claimCounter := t.claimCounter
    line := { (judged s).line with queue := t.line.queue }
    port := { s.port with sticky := t.port.sticky } }

/-- Every flag that was set is set still (R186). -/
def flagsKept (s t : State) : Prop := ∀ f, s.hasFlag f = true → t.hasFlag f = true

/-- The receiver after a reset: a frame being received is abandoned, with its header where that had been taken (R165;
notes/assumptions/5.md). -/
def abandonedAt (before after : Receiver) : Prop :=
  (∀ own, before = .incoming own → after = .abandoned none) ∧ (∀ h, before = .taking h → after = .abandoned (some h)) ∧
    ((∀ own, before ≠ .incoming own) → (∀ h, before ≠ .taking h) → after = before)

/-- The station as a hardware reset, RESTART or CLEAR leaves it with these straps, its panel port apart: the values of
R24, R44, R70, R92, R112, R126, R144, R165, R167, R173 and R178. -/
def freshWith (k : Straps) (s t : State) : Prop :=
  t.straps = k ∧
    t.ref =
      { lineCounter := 0, shiftBits := 0#32, shiftCount := 0, frameWord := none, lock := .unlocked, runCount := 0,
        holdoverCount := 0, synthCount := 0, quietTicks := 0, position := 0, history := [], transport := .noRef } ∧
    t.cues = List.replicate 128 none ∧ t.entries = [] ∧
    t.out =
      { drawn := [], resumed := false, flash := false, beeps := [], beep := false, light := .off, sweep := false,
        sweepCounter := 0, gateView := [], keyed := [] } ∧
    t.takes = { serial := 0#16, log := [], journal := [], deskLog := [] } ∧ t.claimCounter = 0#8 ∧
    t.tracks = List.replicate 8 { named := none, table := [] } ∧ t.line.queue = [] ∧ t.line.attempt = none ∧
    abandonedAt s.line.receiver t.line.receiver ∧ t.line.idle = some 0 ∧ t.line.inbox = [] ∧
    t.line.hdrFixed = 0 ∧ t.line.hdrBad = 0 ∧ t.line.crcBad = 0 ∧ t.line.collisions = 0 ∧
    t.line.sendFail = 0 ∧ t.station.state = (if k.hold then .held else .joining) ∧
    t.station.joinTimer = (if k.hold then 0 else 150) ∧ t.station.beaconTimer = 0 ∧
    t.station.prng = 0xACE1#16 ^^^ BitVec.ofNat 16 (0x1111 * k.address.toNat) ∧
    t.station.peers = List.replicate 16 { present := false, info := none, ticks := 0 } ∧
    t.port.sticky = 1#13 ∧ t.port.mask = 0#14 ∧ t.pending = s.pending

/-- The invariants together. -/
abbrev Sound (s : State) : Prop :=
  RefInv s ∧ CueInv s ∧ LookInv s ∧ TakeInv s ∧ FlightInv s ∧ OutInv s ∧ LevelInv s ∧ TrackInv s ∧ BookingInv s ∧
    LineInv s ∧ QuietInv s ∧ RoleInv s ∧ PeerInv s ∧ TimerInv s ∧ s.station.prng ≠ 0#16

end Sys2Proof.Safety
end

