-- ==== Sys2Proof/Certificates/Slice0/Obligations.lean ====
section
/-! DEFINITION. The statements for the provers. A statement about a good frame assumes that its header has been taken
(`headerTaken`, `handed`); `WholeFrameRowsAreHeaderThenFrame` covers a row that stands for the whole frame. -/

open Sys2Proof Sys2Proof.Machine Sys2Proof.Safety

/-! ### The machine -/

/-- A step runs the command at the front of the queue on the station with the queue's rest; an empty queue idles
(the model's choice, notes/assumptions/19.md). -/
def Obligations.StepTakesTheFrontCommand : Prop :=
  (∀ (c : Instr) (s : State), step { s with pending := c :: s.pending } = exec c s) ∧
    (∀ s : State, s.pending = [] → step s = .next s)

/-- Every command has a next state in every state, and none touches the commands waiting (95, "each whole and
indivisible"; notes/assumptions/21.md). -/
def Obligations.EveryCommandCompletesAndLeavesTheQueue : Prop :=
  ∀ (c : Instr) (s : State), ∃ t, exec c s = .next t ∧ t.pending = s.pending

/-! ### Invariants -/

/-- Every invariant holds of the station right after reset. -/
def Obligations.InvariantsHoldAtReset : Prop := Sound State.reset

/-- R3, R5, R7, R15, R17, R18, R20, R21: the reference unit stays in its ranges and the position in the day. -/
def Obligations.StepKeepsReferenceRanges : Prop :=
  ∀ s t : State, RefInv s → step s = .next t → RefInv t

/-- R25, R31 to R34: every LOADED slot stays in the ranges of the cue table. -/
def Obligations.StepKeepsStoredCuesInRange : Prop :=
  ∀ s t : State, CueInv s → step s = .next t → CueInv t

/-- R45, R53: at most four entries, no two of one slot, each of a LOADED and selected slot, only in an ACTIVE booth. -/
def Obligations.StepKeepsLookaheadSound : Prop :=
  ∀ s t : State, LookInv s → step s = .next t → LookInv t

/-- R26, R93 to R97, R100 to R106, R110: at most two takes run, take counts and numbers stay at 99 or below, the log stays at
32 records in the order of their age with serials distinct, and the journal holds one record for each take in flight. -/
def Obligations.StepKeepsTakeBounds : Prop :=
  ∀ s t : State, RefInv s → CueInv s → LookInv s → FlightInv s → TakeInv s → step s = .next t → TakeInv t

/-- R46, R59, R62, R94, R100, R103: marks stay those of the slot, no entry outlives its punch-out, and a RUNNING take rolls
between its punch-in and its punch-out with a serial that cannot be issued again meanwhile. -/
def Obligations.StepKeepsTakesInFlight : Prop :=
  ∀ s t : State, RefInv s → CueInv s → LookInv s → TakeInv s → FlightInv s → step s = .next t → FlightInv t

/-- R74, R79, R82, R84, R85, R87: LIGHT and BEEP follow their inputs, and the cue outputs stay in their bounds. -/
def Obligations.StepKeepsCueOutputsJudged : Prop :=
  ∀ s t : State, OutInv s → LevelInv s → step s = .next t → OutInv t ∧ LevelInv t

/-- R127, R133, R134: a recorder gate is open exactly where R133 opens it, after every command. -/
def Obligations.StepKeepsGatesUnderTheirRule : Prop :=
  ∀ s t : State, TrackInv s → step s = .next t → TrackInv t

/-- R128, R130: no two reservations of different claimants on one track ever overlap. -/
def Obligations.StepKeepsBookingsDisjoint : Prop :=
  ∀ s t : State, BookingInv s → step s = .next t → BookingInv t

/-- R145, R154, R156, R158 to R162: the transmit queue, the inbox and the counters stay in their bounds and their order, and
no idle time is counted while a frame is sent or taken. -/
def Obligations.StepKeepsLineUnitInOrder : Prop :=
  ∀ s t : State, LineInv s → step s = .next t → LineInv t

/-- R86, R152, R154, R177: outside ACTIVE nothing is queued, held or driven. -/
def Obligations.StepKeepsInactiveStationQuiet : Prop :=
  ∀ s t : State, QuietInv s → step s = .next t → QuietInv t

/-- Spec 00 section 0.2, R91, R127: a block absent in the latched role keeps its reset values. -/
def Obligations.StepKeepsAbsentBlocksAtReset : Prop :=
  ∀ s t : State, RoleInv s → step s = .next t → RoleInv t

/-- R169, R171, R173, R174, R177: the timers stay in range and run only in their state, the pseudorandom register stays nonzero, and the peer entry of
the own address stays unfilled. -/
def Obligations.StepKeepsStationUnitSound : Prop :=
  ∀ s t : State, QuietInv s → PeerInv s → TimerInv s → s.station.prng ≠ 0#16 → step s = .next t →
    PeerInv t ∧ TimerInv t ∧ t.station.prng ≠ 0#16

/-! ### Formats, labels and words -/

/-- R150, R193, R194: the payload of every message that can be written is read back as that message, and is at most
32 bytes. -/
def Obligations.PayloadsDecodeToTheirMessage : Prop :=
  ∀ m : Message, m.wf = true → messageOf (kindCode m) (payloadOf m) = some m ∧ (payloadOf m).length ≤ 32

/-- R146 to R150, R192: the frame built for a message has a clean header with the message's fields, and is judged a good
frame of that message. -/
def Obligations.BuiltFramesAreJudgedGood : Prop :=
  ∀ (source dest : Addr) (m : Message), m.wf = true →
    judgeHeader (headerFor source dest m) (checkByte (headerFor source dest m)) =
        { good := some (headerFor source dest m), fixed := false } ∧
      headerSource (headerFor source dest m) = source ∧
      headerDest (headerFor source dest m) = (if isBroadcastKind m then 0#4 else dest) ∧
      headerBroadcast (headerFor source dest m) = isBroadcastKind m ∧
      headerKind (headerFor source dest m) = kindCode m ∧ headerClass (headerFor source dest m) = classOf m ∧
      headerLen (headerFor source dest m) = (payloadOf m).length ∧
      judgeFrame (headerFor source dest m) (payloadOf m) (frameCrc (headerFor source dest m) (payloadOf m)) = .good m

/-- R147, R148: every single flipped bit of header and check byte is repaired, and every two are found uncorrectable. -/
def Obligations.HeaderCheckRepairsOneBitAndFindsTwo : Prop :=
  ∀ h : BitVec 24, h.extractLsb' 22 2 = 0#2 →
    judgeHeader h (checkByte h) = { good := some h, fixed := false } ∧
      (∀ i < 24, judgeHeader (h ^^^ (1#24 <<< i)) (checkByte h) = { good := some h, fixed := true }) ∧
      (∀ j < 6, judgeHeader h (checkByte h ^^^ (1#8 <<< j)) = { good := some h, fixed := true }) ∧
      (∀ i < 24, ∀ j < 24, i ≠ j →
        judgeHeader (h ^^^ (1#24 <<< i) ^^^ (1#24 <<< j)) (checkByte h) = { good := none, fixed := false }) ∧
      (∀ i < 24, ∀ j < 6,
        judgeHeader (h ^^^ (1#24 <<< i)) (checkByte h ^^^ (1#8 <<< j)) = { good := none, fixed := false }) ∧
      (∀ i < 6, ∀ j < 6, i ≠ j →
        judgeHeader h (checkByte h ^^^ (1#8 <<< i) ^^^ (1#8 <<< j)) = { good := none, fixed := false }) ∧
      (∀ j, 6 ≤ j → j < 8 → judgeHeader h (checkByte h ^^^ (1#8 <<< j)) = { good := none, fixed := false })

/-- R8 to R11, R191: in every profile, counts below D, existing labels and valid position words stand one for one; a word that
fails a condition of R8 is judged none. -/
def Obligations.LabelsCountsAndWordsAreOneForOne : Prop :=
  ∀ p : Profile,
    (∀ n < dayOf p, countOfLabel p (labelOfCount p n) = some n) ∧
      (∀ (l : Label) (n : Nat), countOfLabel p l = some n → n < dayOf p ∧ labelOfCount p n = l) ∧
      (∀ (l : Label) (n hh mm ss ff drop sum : Nat) (w : BitVec 32), countOfLabel p l = some n →
        hh = l.hours.toNat → mm = l.minutes.toNat → ss = l.seconds.toNat → ff = l.frames.toNat →
        drop = (if p = .p0 then 1 else 0) →
        sum = ff % 10 + ff / 10 + ss % 10 + ss / 10 + mm % 10 + mm / 10 + hh % 10 + hh / 10 + drop →
        (judgeWord p w = some n ↔
          w.toNat = ff % 10 + 2 ^ 4 * (ff / 10) + 2 ^ 6 * (ss % 10) + 2 ^ 10 * (ss / 10) + 2 ^ 13 * (mm % 10) +
            2 ^ 17 * (mm / 10) + 2 ^ 20 * (hh % 10) + 2 ^ 24 * (hh / 10) + 2 ^ 26 * drop + 2 ^ 27 * (sum % 32))) ∧
      (∀ (w : BitVec 32) (f10 f1 s10 s1 m10 m1 h10 h1 drop check : Nat),
        f1 = w.toNat % 2 ^ 4 → f10 = w.toNat / 2 ^ 4 % 2 ^ 2 → s1 = w.toNat / 2 ^ 6 % 2 ^ 4 →
        s10 = w.toNat / 2 ^ 10 % 2 ^ 3 → m1 = w.toNat / 2 ^ 13 % 2 ^ 4 → m10 = w.toNat / 2 ^ 17 % 2 ^ 3 →
        h1 = w.toNat / 2 ^ 20 % 2 ^ 4 → h10 = w.toNat / 2 ^ 24 % 2 ^ 2 → drop = w.toNat / 2 ^ 26 % 2 →
        check = w.toNat / 2 ^ 27 →
        (check ≠ (f1 + f10 + s1 + s10 + m1 + m10 + h1 + h10 + drop) % 32 ∨
          9 < f1 ∨ 9 < s1 ∨ 9 < m1 ∨ 9 < h1 ∨ drop ≠ (if p = .p0 then 1 else 0) ∨
          labelCount p (10 * h10 + h1) (10 * m10 + m1) (10 * s10 + s1) (10 * f10 + f1) = none) →
        judgeWord p w = none)

/-- R9, whole: the labels of P1, P2 and P3, their counts, the conversion back and the largest counts. -/
def Obligations.LabelsOfNonDropProfiles : Prop :=
  (∀ p : Profile, p ≠ .p0 →
    (∀ hh mm ss ff : Nat, hh < 24 → mm < 60 → ss < 60 → ff < fpsOf p →
      labelCount p hh mm ss ff = some (((hh * 60 + mm) * 60 + ss) * fpsOf p + ff)) ∧
    (∀ n < dayOf p, ∃ hh mm ss ff : Nat, ff = n % fpsOf p ∧ ss = n / fpsOf p % 60 ∧ mm = n / (60 * fpsOf p) % 60 ∧
      hh = n / (3600 * fpsOf p) ∧ (labelOfCount p n).hours.toNat = hh ∧ (labelOfCount p n).minutes.toNat = mm ∧
      (labelOfCount p n).seconds.toNat = ss ∧ (labelOfCount p n).frames.toNat = ff) ∧
    labelCount p 23 59 59 (fpsOf p - 1) = some (dayOf p - 1)) ∧
  fpsOf .p1 = 25 ∧ dayOf .p1 - 1 = 86399 * 25 + 24 ∧ dayOf .p1 - 1 = 2159999 ∧
  fpsOf .p2 = 24 ∧ dayOf .p2 - 1 = 86399 * 24 + 23 ∧ dayOf .p2 - 1 = 2073599 ∧
  fpsOf .p3 = 30 ∧ dayOf .p3 - 1 = 86399 * 30 + 29 ∧ dayOf .p3 - 1 = 2591999

/-- R10 and R11, whole: which labels exist in P0, their counts, the frames of a minute, of a block and of the day, and the
label of a count by its four steps; it exists, and R10 gives the count back. -/
def Obligations.LabelsOfTheDropFrameProfile : Prop :=
  fpsOf .p0 = 30 ∧
  (∀ hh mm ss ff : Nat, hh < 24 → mm < 60 → ss < 60 → ff < 30 →
    labelCount .p0 hh mm ss ff =
      if ss = 0 ∧ (ff = 0 ∨ ff = 1) ∧ mm % 10 ≠ 0 then none
      else some (((60 * hh + mm) * 60 + ss) * 30 + ff - 2 * ((60 * hh + mm) - (60 * hh + mm) / 10))) ∧
  (∀ hh mm a b : Nat, labelCount .p0 hh mm 0 (if mm % 10 = 0 then 0 else 2) = some a →
    labelCount .p0 hh mm 59 29 = some b → b + 1 = a + if mm % 10 = 0 then 1800 else 1798) ∧
  1800 + 9 * 1798 = 17982 ∧ dayOf .p0 = 144 * 17982 ∧ dayOf .p0 = 2589408 ∧
  labelCount .p0 23 59 59 29 = some (86399 * 30 + 29 - 2 * (1439 - 143)) ∧
  labelCount .p0 23 59 59 29 = some 2589407 ∧ 2589407 = dayOf .p0 - 1 ∧
  ∀ n < 2589408, ∃ d m add n' : Nat,
    d = n / 17982 ∧ m = n % 17982 ∧ add = (if m < 2 then 18 * d else 18 * d + 2 * ((m - 2) / 1798)) ∧ n' = n + add ∧
      (labelOfCount .p0 n).frames.toNat = n' % 30 ∧ (labelOfCount .p0 n).seconds.toNat = n' / 30 % 60 ∧
      (labelOfCount .p0 n).minutes.toNat = n' / 1800 % 60 ∧ (labelOfCount .p0 n).hours.toNat = n' / 108000 ∧
      countOfLabel .p0 (labelOfCount .p0 n) = some n

/-! ### The panel port -/

/-- STATUS (R90, R181, R196): the answer is the record of 102 bytes, with every field at its offset; only the port's transaction
and answer change. The values of the flag bytes and the order of serials, drawn entries and pairs are the model's choice
(notes/assumptions/18.md), and so are the zeros of unused drawn places (notes/assumptions/33.md) and of the bits that no rule
assigns, 14 and 15 of the flag and mask words and 6 to 3 of an own track's byte (notes/assumptions/36.md). -/
def Obligations.StatusAnswersTheStatusRecord : Prop :=
  ∀ s : State, ∃ r : List Byte,
    exec .status s =
        .next { s with port := { s.port with transaction := .answering, answer := some { status := .ok, body := r } } } ∧
      r.length = 102 ∧
      r.take 6 =
        [s.straps.address.zeroExtend 8, roleCode s.straps.role, s.straps.room.zeroExtend 8,
          byte (profileCode s.straps.profile), byteBool s.straps.hold, stateCode s.station.state] ∧
      (r.drop 6).take 2 = bytesNat16
        (if s.station.state = .joining then s.station.joinTimer
        else if s.station.state = .active then s.station.beaconTimer else 0) ∧
      (r.drop 8).take 2 = [lockCode s.ref.lock, transportCode s.ref.transport] ∧
      (r.drop 10).take 3 = bytesCount s.ref.position ∧
      (r.drop 13).take 4 = labelBytes (labelOfCount s.straps.profile s.ref.position) ∧
      (∀ f, (r.drop 17).take 2 = bytes16 f → f.getLsbD 13 = !s.line.inbox.isEmpty ∧ f.getLsbD 14 = false ∧
        f.getLsbD 15 = false ∧ ∀ flag, f.getLsbD (flagBit flag) = s.hasFlag flag) ∧
      (r.drop 19).take 2 = bytes16 (s.port.mask.zeroExtend 16) ∧ r[21]? = some (byteBool s.attn) ∧
      (r.drop 22).take 10 =
        bytesNat16 s.line.hdrFixed ++ bytesNat16 s.line.hdrBad ++ bytesNat16 s.line.crcBad ++
          bytesNat16 s.line.collisions ++ bytesNat16 s.line.sendFail ∧
      (r.drop 32).take 3 = [byte s.line.queue.length, byte s.line.inbox.length, s.claimCounter] ∧
      (r.drop 35).take 2 = bytes16 s.takes.serial ∧
      r[37]? = some (byte (if s.straps.role = .desk then s.takes.deskLog.length else s.takes.log.length)) ∧
      r[38]? = some (byte s.running.length) ∧
      (r.drop 39).take 4 =
        (s.running.flatMap (fun e => bytes16 (e.serial.getD 0#16)) ++ List.replicate 4 0#8).take 4 ∧
      r[43]? = some (byte s.entries.length) ∧
      (r.drop 44).take 20 =
        (s.entries.flatMap (fun e =>
          [byte e.slot, phaseCode e.phase, claimStateCode e.claim, takeStateCode e.take, byteBool e.stoodDown]) ++
          List.replicate 20 0#8).take 20 ∧
      (r.drop 64).take 7 =
        [lightCode s.out.light, byteBool s.out.beep, byte s.out.beeps.length, byteBool s.out.sweep,
          byte s.out.sweepCounter, byteBool s.out.flash, byte s.out.drawn.length] ∧
      (r.drop 71).take 6 =
        (s.out.drawn.flatMap (fun slot => byte slot :: bytesNat16 (s.columnOf 0 slot)) ++ List.replicate 6 0#8).take 6 ∧
      r[77]? = some (byte s.out.gateView.length) ∧
      (r.drop 78).take 16 =
        (s.out.gateView.map (fun x => byte (16 * x.1.toNat + x.2.toNat % 16)) ++ List.replicate 16 0#8).take 16 ∧
      (r.drop 94).take 8 =
        (if isRecorder s.straps.role then
          (s.tracks.map (fun x => (if x.named.isSome then 128#8 else 0#8) ||| byte x.table.length) ++
            List.replicate 8 0#8).take 8
        else List.replicate 8 0#8)

/-- READ (R43, R69, R111, R143, R179, R182, R195, R197): the answer to every selector and index, byte by byte; only the port's
transaction and answer change. A table absent in the latched role shows its reset values or EMPTY for every index
(notes/assumptions/34.md). The values of the flag bytes and of the gate byte are the model's choice (notes/assumptions/33.md),
and so are a peer's room above 3 or position above 2,591,999 (notes/assumptions/35.md) and the zeros of absent fields and of
the bits that no rule assigns, 9 to 15 of the crossed flags among them (notes/assumptions/36.md). -/
def Obligations.ReadAnswersOneSnapshot : Prop :=
  ∀ (selector index : Byte) (s : State), s.station.peers.length = 16 → s.tracks.length = 8 →
    ∃ a : Answer,
      exec (.read selector index) s =
          .next { s with port := { s.port with transaction := .answering, answer := some a } } ∧
        (4 < selector.toNat → a = { status := .badRequest, body := [] }) ∧
        (selector = 0#8 →
          if index.toNat < 128 ∨ s.straps.role ≠ .booth then
            a.status = .ok ∧ a.body.length = 44 ∧
              (s.cueAt index.toNat = none →
                a.body = [0#8, 0#8, 0#8, byteBool (s.inLookahead index.toNat)] ++ List.replicate 40 0#8) ∧
              (∀ c, s.cueAt index.toNat = some c →
                a.body =
                  [if c.lastResult.isSome then 3#8 else 1#8, 1#8, byteBool c.selected,
                    byteBool (s.inLookahead index.toNat)] ++ bytes16 c.cueId ++ labelBytes c.inLabel ++
                    labelBytes c.outLabel ++ [c.streamer, c.beepCount, c.beepDur, c.track.getD 255#8, c.pre, c.post] ++
                    bytesCount c.cueIn ++ bytesCount c.cueOut ++ [byte c.text.length] ++
                    (c.text ++ List.replicate 14 0#8).take 14 ++
                    [byte c.takeCount, (c.lastResult.map takeResultCode).getD 0#8, byte c.circled])
          else a = { status := .badIndex, body := [] }) ∧
        (selector = 1#8 →
          if index.toNat < 4 ∨ s.straps.role ≠ .booth then
            (s.entries[index.toNat]? = none → a = { status := .empty, body := [] }) ∧
              (∀ e, s.entries[index.toNat]? = some e → a.status = .ok ∧ a.body.length = 47 ∧
                ∃ present : Word16,
                  a.body =
                    bytes16 present ++ [byte e.slot] ++ bytes16 (((s.cueAt e.slot).map Cue.cueId).getD 0#16) ++
                      bytes24 (BitVec.ofInt 24 e.key) ++ bytesCount e.marks.windowOpen ++
                      bytesCount (e.marks.beep3.getD 0) ++ bytesCount (e.marks.beep2.getD 0) ++
                      bytesCount (e.marks.beep1.getD 0) ++ bytesCount (e.marks.streamerStart.getD 0) ++
                      bytesCount e.marks.punchIn ++ bytesCount e.marks.cueIn ++ bytesCount e.marks.cueOut ++
                      bytesCount e.marks.punchOut ++ bytes16 (e.crossed.zeroExtend 16) ++
                      [phaseCode e.phase, byteBool e.stoodDown, claimStateCode e.claim, e.claimNo.getD 0#8,
                        (e.denyReason.map denyCode).getD 0#8, takeStateCode e.take] ++ bytes16 (e.serial.getD 0#16) ++
                      [byteBool e.gateSeenOpen, byteBool e.gateCut] ∧
                    (∀ k, present.getLsbD (markBit k) = (e.marks.at k).isSome) ∧
                    present.getLsbD 9 = e.claimNo.isSome ∧ present.getLsbD 10 = e.denyReason.isSome ∧
                    present.getLsbD 11 = e.serial.isSome ∧ present.toNat < 2 ^ 12)
          else a = { status := .badIndex, body := [] }) ∧
        (selector = 2#8 →
          if index.toNat < 32 ∨ isRecorder s.straps.role = true then
            (s.logCount ≤ index.toNat → a = { status := .empty, body := [] }) ∧
              (index.toNat < s.logCount → a.status = .ok ∧ a.body.length = 18) ∧
              (∀ r, s.straps.role ≠ .desk → s.takes.log[index.toNat]? = some r →
                a.body =
                  [byteBool r.stop.isSome, 0#8, byte r.slot, 0#8] ++ bytes16 r.serial ++ bytes16 r.cueId ++
                    [byte r.take, takeResultCode r.result, byteBool r.offSpeed] ++ bytesCount r.start ++
                    bytesCount (r.stop.getD 0) ++ [byteBool r.circled]) ∧
              (∀ r, s.straps.role = .desk → s.takes.deskLog[index.toNat]? = some r →
                a.body =
                  [1#8, 1#8, r.note.slot, r.source.zeroExtend 8] ++ bytes16 r.note.serial ++ bytes16 r.note.cueId ++
                    [r.note.take, takeResultCode r.note.result, byteBool r.note.offSpeed] ++ bytes24 r.note.start ++
                    bytes24 r.note.stop ++ [0#8])
          else a = { status := .badIndex, body := [] }) ∧
        (selector = 3#8 →
          if index.toNat < 16 then
            a.status = .ok ∧ a.body.length = 11 ∧
              (∀ p, s.station.peers[index.toNat]? = some p → p.info = none →
                a.body = [0#8, byteBool p.present] ++ List.replicate 8 0#8 ++ [byte p.ticks]) ∧
              (∀ p m, s.station.peers[index.toNat]? = some p → p.info = some m →
                a.body =
                  [1#8, byteBool p.present, roleCode m.role, m.room, stateCode m.state, lockCode m.lock,
                    transportCode m.transport] ++ bytes24 m.position ++ [byte p.ticks])
          else a = { status := .badIndex, body := [] }) ∧
        (selector = 4#8 →
          if index.toNat < 16 ∨ isRecorder s.straps.role = false then
            (match ownTrack s.straps.role index with
              | some i => ∃ t, s.tracks[i]? = some t ∧ a.status = .ok ∧ a.body.length = 5 + 12 * t.table.length ∧
                a.body =
                  [byteBool t.named.isSome, byteBool t.named.isSome,
                    ((t.named.map (fun n => (n.claimant.zeroExtend 8 : Byte))).getD 0#8),
                    ((t.named.map Reservation.claimNo).getD 0#8), byte t.table.length] ++
                  t.table.flatMap (fun r =>
                    [r.claimant.zeroExtend 8, r.claimNo, r.room] ++ bytes16 r.cueId ++ bytesCount r.f1 ++
                      bytesCount r.f2 ++ [byteBool (namedBy t r)])
              | none => a = { status := .empty, body := [] })
          else a = { status := .badIndex, body := [] }) ∧
        (RoleInv s →
          (s.straps.role ≠ .booth →
            (selector = 0#8 → a = { status := .ok, body := List.replicate 44 0#8 }) ∧
            (selector = 1#8 → a = { status := .empty, body := [] })) ∧
          (isRecorder s.straps.role = true → selector = 2#8 → a = { status := .empty, body := [] }) ∧
          (isRecorder s.straps.role = false → selector = 4#8 → a = { status := .empty, body := [] }))

/-- Requests and answers as bytes and bits (R180, R188, R195, R198): the bytes of a request name exactly its command, taken at
its last byte and not before; the bits of PDI go most significant first; PDO is driven while PSEL is low, with the bits of
the answer once there is one. The straps that a RESTART senses are the world's (notes/assumptions/3.md);
a RESET of no level is notes/assumptions/8.md, PDO as a function notes/assumptions/23.md. -/
def Obligations.RequestBytesNameTheirCommand : Prop :=
  (∀ (sensed : StrapLevels) (bytes : List Byte) (c : Instr),
    requestOf sensed bytes = some c ↔
      requestBytes c = some bytes ∧ c.wf = true ∧ ∀ x, c = .resetRestart x → x = sensed) ∧
  (∀ (sensed : StrapLevels) (code : Byte) (rest : List Byte) (c : Instr),
    requestOf sensed (code :: rest) = some c → 1 ≤ code.toNat → code.toNat ≤ 9 →
      ∀ n < rest.length + 1, requestOf sensed ((code :: rest).take n) = none) ∧
  (∀ (sensed : StrapLevels) (bytes : List Byte) (more : List Bool), more.length < 8 →
    requestOfBits sensed (bytes.flatMap bitsOfByte ++ more) = requestOf sensed bytes) ∧
  (∀ (s : State) (n : Nat),
    s.pdoAt false n = .undriven ∧ (s.port.answer = none → s.pdoAt true n = .noAnswer) ∧
      ∀ a, s.port.answer = some a →
        (∀ b, (answerBytes a)[n / 8]? = some b → s.pdoAt true n = .answerBit (b.getLsbD (7 - n % 8))) ∧
        ((answerBytes a).length * 8 ≤ n → s.pdoAt true n = .noAnswer))

/-- SEND (R158, R159, R160, R184, R185): a message the panel may send, at an ACTIVE station with room, joins the queue at its
place with origin panel and is answered QUEUED; the checks in their order, each refusal leaving all but the answer
unchanged, and a full queue displacing or refusing; a message that joins keeps the class order of the queue, and within
each class the order queued. -/
def Obligations.SendIsJudgedByItsChecksInOrder : Prop :=
  (∀ (s : State) (dest : Byte) (m : Message),
     m.wf = true → 6 ≤ (kindCode m).toNat → (kindCode m).toNat ≤ 11 → s.station.state = .active →
       s.line.queue.length < 8 → (isBroadcastKind m = true ∨ (dest.toNat ≤ 15 ∧ dest ≠ s.straps.address.zeroExtend 8)) →
         exec (.send ((kindCode m).zeroExtend 8) dest (payloadOf m)) s =
           .next { s with
             line := { s.line with
               queue := insertTx (newMessage (.fixed (dest.extractLsb' 0 4) m) .panel) s.line.queue }
             port := { s.port with
               transaction := .answering, answer := some { status := .queued, body := [] } } }) ∧
  (∀ (m : TxMsg) (q : List TxMsg), q.Pairwise (fun a b => a.cls ≤ b.cls) →
     (insertTx m q).Pairwise (fun a b => a.cls ≤ b.cls) ∧
       ∀ c, (insertTx m q).filter (fun x => x.cls == c) =
         q.filter (fun x => x.cls == c) ++ (if m.cls = c then [m] else [])) ∧
  (∀ (kind : Byte) (payload : List Byte), sendLength kind payload = none ↔ ¬ (6 ≤ kind.toNat ∧ kind.toNat ≤ 11)) ∧
  ∀ (kind dest : Byte) (payload : List Byte) (s : State),
    (sendLength kind payload = none → exec (.send kind dest payload) s = .next (s.answerWith .notAllowed [])) ∧
    (∀ n, sendLength kind payload = some n → payload.length ≠ n →
      exec (.send kind dest payload) s = .next (s.answerWith .badLength [])) ∧
    (sendLength kind payload = some payload.length → messageOf (kind.extractLsb' 0 5) payload = none →
      exec (.send kind dest payload) s = .next (s.answerWith .notAllowed [])) ∧
    (∀ m, sendLength kind payload = some payload.length → messageOf (kind.extractLsb' 0 5) payload = some m →
      (isBroadcastKind m = false → 15 < dest.toNat ∨ dest = s.straps.address.zeroExtend 8 →
        exec (.send kind dest payload) s = .next (s.answerWith .notAllowed [])) ∧
      ((isBroadcastKind m = true ∨ (dest.toNat ≤ 15 ∧ dest ≠ s.straps.address.zeroExtend 8)) →
        (s.station.state ≠ .active → exec (.send kind dest payload) s = .next (s.answerWith .notActive [])) ∧
        (s.station.state = .active → ∀ victim, 8 ≤ s.line.queue.length → s.line.queue.getLast? = some victim →
          exec (.send kind dest payload) s =
            .next (if (classOf m).toNat < victim.cls ∧ victim.underAttempt = false then
              (State.setFlag .queueDrop
                (s.withQueue (insertTx (newMessage (.fixed (dest.extractLsb' 0 4) m) .panel) s.line.queue.dropLast))).answerWith
                .queued []
            else s.answerWith .queueFull []))))

/-- POP_INBOX, ACK_FLAGS, SET_MASK, RELEASE_HOLD, SWEEP, BAD_REQUEST, TRANSACTION_ABANDONED and TRANSACTION_END (R79, R168,
R180, R183, R186, R187, R189, R195): the oldest REPLY with its source leaves the inbox, or EMPTY; each named sticky flag is
cleared and no other, and the counters by their bit; the mask is replaced and ATTN follows; HELD to JOINING with the outputs
inactive; the sweep on and off; the port's own answers. Nothing else changes. That drawing waits for a boundary after a
sweep is the bit `resumed` (notes/assumptions/15.md); that an abandoned request has no answer is notes/assumptions/32.md. -/
def Obligations.PanelRequestsChangeExactlyWhatTheyName : Prop :=
  (∀ s : State,
     (∀ (x : InboxItem) (rest : List InboxItem), s.line.inbox = x :: rest →
       exec .popInbox s =
         .next { s with
           line := { s.line with inbox := rest }
           port := { s.port with
             transaction := .answering
             answer := some { status := .ok, body := x.source.zeroExtend 8 :: payloadOf (.reply x.reply) } } }) ∧
     (s.line.inbox = [] →
       exec .popInbox s =
         .next { s with port := { s.port with
           transaction := .answering, answer := some { status := .empty, body := [] } } })) ∧
  (∀ (word : Word16) (s : State), ∃ t,
    exec (.ackFlags word) s = .next t ∧ (∀ f, t.hasFlag f = (s.hasFlag f && !word.getLsbD (flagBit f))) ∧
      t = { s with
        line :=
          if word.getLsbD 15 then
            { s.line with hdrFixed := 0, hdrBad := 0, crcBad := 0, collisions := 0, sendFail := 0 }
          else s.line
        port := { s.port with
          transaction := .answering, answer := some { status := .ok, body := [] }, sticky := t.port.sticky } }) ∧
  (∀ (word : Word16) (s : State), ∃ t,
    exec (.setMask word) s = .next t ∧ (∀ i < 14, t.port.mask.getLsbD i = word.getLsbD i) ∧
      (t.attn = true ↔ ∃ i < 14, t.port.mask.getLsbD i = true ∧ t.flags.getLsbD i = true) ∧
      t = { s with port := { s.port with
        transaction := .answering, answer := some { status := .ok, body := [] }, mask := t.port.mask } }) ∧
  (∀ s : State,
    (s.station.state = .held →
      exec .releaseHold s =
        .next { s with
          station := { s.station with state := .joining, joinTimer := 150 }
          out := { s.out with drawn := [], resumed := false, flash := false, beep := false, light := .off }
          port := { s.port with transaction := .answering, answer := some { status := .ok, body := [] } } }) ∧
    (s.station.state ≠ .held →
      exec .releaseHold s =
        .next { s with port := { s.port with
          transaction := .answering, answer := some { status := .notHeld, body := [] } } })) ∧
  (∀ (onOff : Byte) (s : State),
    (onOff = 1#8 →
      exec (.sweep onOff) s =
        .next { s with
          out := { s.out with
            sweep := true, sweepCounter := if s.out.sweep then s.out.sweepCounter else 0, flash := false }
          port := { s.port with transaction := .answering, answer := some { status := .ok, body := [] } } }) ∧
    (onOff = 0#8 →
      exec (.sweep onOff) s =
        .next { s with
          out := { s.out with sweep := false, resumed := s.out.resumed && !s.out.sweep }
          port := { s.port with transaction := .answering, answer := some { status := .ok, body := [] } } }) ∧
    (1 < onOff.toNat →
      exec (.sweep onOff) s =
        .next { s with port := { s.port with
          transaction := .answering, answer := some { status := .badRequest, body := [] } } })) ∧
  (∀ s : State,
    (∀ (code : Byte) (rest : List Byte),
      exec (.badRequest code rest) s =
        .next { s with port := { s.port with
          transaction := .answering, answer := some { status := .badRequest, body := [] } } }) ∧
    (∀ received : List Byte,
      exec (.transactionAbandoned received) s =
        .next { s with port := { s.port with transaction := .idle, answer := none } }) ∧
    exec .transactionEnd s = .next { s with port := { s.port with transaction := .idle, answer := none } })

/-- HARDWARE_RESET, RESET_RESTART and RESET_CLEAR (R165, R166, R167, R178, R190 and the reset tables): every block at its reset
values, the straps latched anew or kept, a frame being received abandoned and the idle count at 0, the port idle or
answering OK, and every invariant holding. How a frame on the line is abandoned is notes/assumptions/5.md. -/
def Obligations.ResetsReturnTheFreshStation : Prop :=
  ∀ s : State,
    (∀ straps : StrapLevels, ∃ k t,
      exec (.hardwareReset straps) s = .next t ∧
        exec (.resetRestart straps) s =
          .next { t with port := { t.port with
            transaction := .answering, answer := some { status := .ok, body := [] } } } ∧
        k.address.toNat = 4 * levelCode straps.addr1 + levelCode straps.addr0 ∧ k.role = roleOfLevel straps.role ∧
        k.room.toNat = levelCode straps.room ∧ k.profile = profileOfLevel straps.profile ∧ k.hold = straps.hold ∧
        t.port.transaction = .idle ∧ t.port.answer = none ∧ freshWith k s t ∧ Sound t) ∧
    (∃ t,
      exec .resetClear s = .next t ∧ t.port.transaction = .answering ∧
        t.port.answer = some { status := .ok, body := [] } ∧ freshWith s.straps s t ∧ Sound t)

/-- RESET_ENGINE (R44, R70, R92, R112, R126, R144, R178, R190): identity, state, reference, load fields, selected flags, gate
view, inbox, counters and attempt kept, no gate open, no reservation, no sweep, and only new entries; a RELEASE RESET for
every open claim in entry order, and a GATE CUT RESET for every open gate in track order. The takes in flight are those of
TakesInFlightAreKeptOrUnwound. -/
def Obligations.EngineResetKeepsIdentityAndEmptiesWork : Prop :=
  ∀ s : State, TrackInv s → ∃ t,
    exec .resetEngine s = .next t ∧
      t = { s with
        cues := t.cues, entries := t.entries, out := t.out, claimCounter := t.claimCounter, tracks := t.tracks
        takes := { s.takes with log := t.takes.log, journal := t.takes.journal }
        line := { s.line with queue := t.line.queue }
        port := { s.port with
          transaction := .answering, answer := some { status := .ok, body := [] }, sticky := t.port.sticky } } ∧
      t.cues.map imageOf = s.cues.map imageOf ∧
      t.cues.map (Option.map Cue.selected) = s.cues.map (Option.map Cue.selected) ∧
      (∀ x ∈ t.tracks, x.named = none ∧ x.table = []) ∧
      (∀ e ∈ t.entries, e.crossed = 0#9 ∧ e.stoodDown = false ∧ (e.take = .idle ∨ e.take = .late)) ∧
      t.out.sweep = false ∧ t.out.sweepCounter = 0 ∧ t.out.flash = false ∧ t.out.beeps = [] ∧ t.out.beep = false ∧
      t.out.keyed = [] ∧ t.out.gateView = s.out.gateView ∧ flagsKept s t ∧
      (s.tracks.any (fun x => x.named.isSome) = true → t.hasFlag .gateCut = true) ∧
      (LookInv s → LineInv s →
        sentInOrder s t (releasesOf .reset s.entries s ++ cutsOf .reset (fun _ => true) s))

/-! ### The reference unit -/

/-- LINE_PULSE below the count that synthesizes a boundary, and FRAME_PULSE outside its window (R1, R3, R4, R72): the line
counter rises by one, REF_GLITCH marks an excess pulse, and the keyed columns are fixed; a frame pulse in UNLOCKED
re-phases the unit and otherwise sets REF_GLITCH alone, and a line pulse on the same edge is then counted
(notes/assumptions/9.md). -/
def Obligations.PulsesInsideTheFrame : Prop :=
  (∀ s : State, s.ref.lineCounter + 1 < linesOf s.straps.profile + 4 → ∃ t,
    exec .linePulse s = .next t ∧
      t = { s with
        ref := { s.ref with lineCounter := s.ref.lineCounter + 1 }
        out := { s.out with keyed := t.keyedRanges }
        port := { s.port with sticky :=
            (if linesOf s.straps.profile ≤ s.ref.lineCounter + 1 then withFlag .refGlitch s.port.sticky
            else s.port.sticky) } } ∧
      t.rasterLine = min (s.ref.lineCounter + 1) (linesOf s.straps.profile - 1) ∧ t.subFrame ≤ 255 ∧
      (t.lineActive = false → t.out.keyed = [])) ∧
  (∀ s : State, s.ref.lineCounter < linesOf s.straps.profile - 4 → ∃ u,
    exec (.framePulse false) s = .next u ∧ exec (.framePulse true) s = exec .linePulse u ∧
      (s.ref.lock = .unlocked →
        u = { s with ref := { s.ref with
          lineCounter := 0, shiftBits := 0#32, shiftCount := 0, frameWord := none } }) ∧
      (s.ref.lock ≠ .unlocked →
        u = { s with port := { s.port with sticky := withFlag .refGlitch s.port.sticky } }))

/-- FRAME_PULSE inside its window (R4, R6, R14 to R17, R20, R22, R170): the new frame is open, lock, position and history stand
as the rule of the lock state before it says, and a BEACON is given exactly where lock or transport has changed. -/
def Obligations.AcceptedFramePulseOpensAFrame : Prop :=
  ∀ (withLine : Bool) (s : State), linesOf s.straps.profile - 4 ≤ s.ref.lineCounter → ∃ t,
    exec (.framePulse withLine) s = .next t ∧ keptByReports s t ∧ flagsKept s t ∧ t.ref.lineCounter = 0 ∧
      t.ref.shiftCount = 0 ∧ t.ref.shiftBits = 0#32 ∧ t.ref.frameWord = none ∧ t.ref.quietTicks = 0 ∧
      t.ref.synthCount = 0 ∧ t.ref.transport = classify t.ref.lock t.ref.history ∧
      (1 ≤ s.ref.shiftCount → s.ref.shiftCount ≤ 31 → t.hasFlag .refGlitch = true) ∧ lockMoved true s t ∧
      beaconOfChange s t

/-- R14, whole: what UNLOCKED does at an accepted frame pulse, and that of all commands nothing else leaves it. -/
def Obligations.UnlockedLeavesOnlyByAnAcceptedPulse : Prop :=
  ∀ s : State, RefInv s → s.ref.lock = .unlocked →
    s.ref.transport = .noRef ∧
    (∀ withLine : Bool, linesOf s.straps.profile - 4 ≤ s.ref.lineCounter →
      (∃ t, exec (.framePulse withLine) s = .next t ∧ t.ref.lock = .acquiring ∧ t.ref.runCount = 0 ∧
        t.ref.position = s.ref.position) ∧
      ∀ word : Option Nat,
        exec (.framePulse withLine) { s with ref := { s.ref with frameWord := word } } = exec (.framePulse withLine) s) ∧
    (∃ t, exec .linePulse s = .next t ∧ t.ref.lock = .unlocked ∧ t.ref.position = s.ref.position ∧
      t.ref.transport = .noRef) ∧
    (∀ withLine : Bool, s.ref.lineCounter < linesOf s.straps.profile - 4 →
      ∃ t, exec (.framePulse withLine) s = .next t ∧ t.ref.lock = .unlocked ∧ t.ref.position = s.ref.position ∧
        t.ref.transport = .noRef) ∧
    (∃ t, exec .tick s = .next t ∧ t.ref.lock = .unlocked ∧ t.ref.position = s.ref.position ∧ t.ref.transport = .noRef) ∧
    exec .lossByTime s = .next s ∧
    (∀ (c : Instr) (t : State), exec c s = .next t → t.ref.lock ≠ .unlocked →
      ∃ withLine : Bool, c = .framePulse withLine ∧ linesOf s.straps.profile - 4 ≤ s.ref.lineCounter)

/-- LINE_PULSE at the count that synthesizes a boundary (R5, R6, R13 to R17, R19, R20, R22, R170): the new frame is open; the
third in a row enters UNLOCKED, and an earlier one moves lock, position and history by the rule of the lock state before it;
a BEACON is given exactly where lock or transport has changed. -/
def Obligations.SynthesizedBoundaryAndTheThirdInARow : Prop :=
  ∀ s : State, s.ref.lineCounter + 1 = linesOf s.straps.profile + 4 → ∃ t,
    exec .linePulse s = .next t ∧ keptByReports s t ∧ flagsKept s t ∧ t.hasFlag .refGlitch = true ∧
      t.ref.lineCounter = 0 ∧ t.ref.shiftCount = 0 ∧ t.ref.shiftBits = 0#32 ∧ t.ref.frameWord = none ∧
      t.ref.quietTicks = s.ref.quietTicks ∧ t.ref.transport = classify t.ref.lock t.ref.history ∧ beaconOfChange s t ∧
      (s.ref.lock = .unlocked → lockMoved false s t ∧ t.ref.synthCount = min (s.ref.synthCount + 1) 3) ∧
      (s.ref.lock ≠ .unlocked → 2 ≤ s.ref.synthCount →
        t.ref.lock = .unlocked ∧ t.ref.transport = .noRef ∧ t.ref.runCount = 0 ∧ t.ref.holdoverCount = 0 ∧
          t.ref.synthCount = 0 ∧ t.ref.position = s.ref.position ∧ t.ref.history = s.ref.history ∧
          t.hasFlag .refUnlock = true) ∧
      (s.ref.lock ≠ .unlocked → s.ref.synthCount < 2 →
        lockMoved false s t ∧ (t.ref.lock ≠ .unlocked → t.ref.synthCount = s.ref.synthCount + 1))

/-- POSITION_BIT (R7, R8, R191): a bit before the 32nd is shifted in, the 32nd is judged by the line counter and for validity,
and a bit after it is discarded; and 32 bits from an empty shifter in the window give the word in arrival order, and its
judgement. Judging at the 32nd bit is the model's reading (notes/assumptions/10.md). -/
def Obligations.PositionBitsMakeAJudgedWord : Prop :=
  (∀ (w : BitVec 32) (s : State) (rest : List Instr),
     s.ref.shiftCount = 0 → s.ref.shiftBits = 0#32 → s.wordWindow = true →
       s.pending = (List.range 32).map (fun i => Instr.positionBit (w.getLsbD i)) ++ rest →
         Host.Core.run Sys2Proof.core 32 s =
           .next (match judgeWord s.straps.profile w with
             | some n =>
               { s with ref := { s.ref with shiftBits := w, shiftCount := 32, frameWord := some n }, pending := rest }
             | none =>
               State.setFlag .refWordBad { s with ref := { s.ref with shiftBits := w, shiftCount := 32 }, pending := rest })) ∧
  (∀ (bit : Bool) (s : State),
     (s.ref.shiftCount < 31 →
       exec (.positionBit bit) s =
         .next { s with ref := { s.ref with
           shiftBits := if bit then s.ref.shiftBits ||| (1#32 <<< s.ref.shiftCount) else s.ref.shiftBits
           shiftCount := s.ref.shiftCount + 1 } }) ∧
     (s.ref.shiftCount = 31 → ∃ w,
       w = (if bit then s.ref.shiftBits ||| (1#32 <<< 31) else s.ref.shiftBits) ∧
       (1 ≤ s.ref.lineCounter → s.ref.lineCounter < firstActiveOf s.straps.profile →
         (∀ n, judgeWord s.straps.profile w = some n →
           exec (.positionBit bit) s =
             .next { s with ref := { s.ref with shiftBits := w, shiftCount := 32, frameWord := some n } }) ∧
         (judgeWord s.straps.profile w = none →
           exec (.positionBit bit) s =
             .next { s with
               ref := { s.ref with shiftBits := w, shiftCount := 32 }
               port := { s.port with sticky := withFlag .refWordBad s.port.sticky } })) ∧
       (s.ref.lineCounter = 0 ∨ firstActiveOf s.straps.profile ≤ s.ref.lineCounter →
         exec (.positionBit bit) s =
           .next { s with
             ref := { s.ref with shiftBits := w, shiftCount := 32 }
             port := { s.port with sticky := withFlag .refGlitch s.port.sticky } })) ∧
     (32 ≤ s.ref.shiftCount →
       exec (.positionBit bit) s =
         .next { s with port := { s.port with sticky := withFlag .refGlitch s.port.sticky } }))

/-- KEY (R71, R72, R73, R75 to R80): the columns keyed on a raster line, by the first source that applies: the sweep bar at
counter × 15 or × 40, the whole line on flash, and the bars of the drawn entries; none outside the active lines. Each is a
range of columns below W, KEY is asserted at their pixel clocks and never while the pixel clock is stopped, and they are
fixed at each line pulse. A line of Htotal pixel clocks is its sync, its back porch, W columns and Hfront. That bars wait
for a boundary is the bit `resumed` (notes/assumptions/15.md), and KEY as a function of the clock is
notes/assumptions/17.md. -/
def Obligations.KeyedColumnsFollowTheirSource : Prop :=
  ∀ s : State, ∃ (first last W Bw porch step front total : Nat),
    (match s.straps.profile with
      | .p0 =>
        first = 22 ∧ last = 501 ∧ W = 720 ∧ Bw = 8 ∧ porch = 62 + 60 ∧ step = 15 ∧ front = 16 ∧ total = 858
      | .p1 =>
        first = 23 ∧ last = 598 ∧ W = 720 ∧ Bw = 8 ∧ porch = 63 + 69 ∧ step = 15 ∧ front = 12 ∧ total = 864
      | .p2 =>
        first = 41 ∧ last = 1120 ∧ W = 1920 ∧ Bw = 20 ∧ porch = 44 + 148 ∧ step = 40 ∧ front = 638 ∧ total = 2750
      | .p3 =>
        first = 41 ∧ last = 1120 ∧ W = 1920 ∧ Bw = 20 ∧ porch = 44 + 148 ∧ step = 40 ∧ front = 88 ∧ total = 2200) ∧
    (hfrontOf s.straps.profile = front ∧ htotalOf s.straps.profile = total ∧ porch + W + front = total) ∧
    (∃ t, exec .linePulse s = .next t ∧ t.out.keyed = t.keyedRanges) ∧
    (∀ clock, s.keyAt clock = true ↔
      ∃ r ∈ s.out.keyed, ∃ column, r.1 ≤ column ∧ column < r.2 ∧ clock = .running (porch + column)) ∧
    (∀ r ∈ s.keyedRanges, r.2 ≤ W) ∧
    (s.rasterLine < first ∨ last < s.rasterLine → s.keyedRanges = []) ∧
    (first ≤ s.rasterLine → s.rasterLine ≤ last →
      (s.out.sweep = true →
        s.keyedRanges = [(s.out.sweepCounter * step, min (s.out.sweepCounter * step + Bw) W)]) ∧
      (s.out.sweep = false → s.keyingPermitted = false → s.keyedRanges = []) ∧
      (s.out.sweep = false → s.keyingPermitted = true → s.out.flash = true → s.keyedRanges = [(0, W)]) ∧
      (s.out.sweep = false → s.keyingPermitted = true → s.out.flash = false → s.out.resumed = false →
        s.keyedRanges = []) ∧
      (s.out.sweep = false → s.keyingPermitted = true → s.out.flash = false → s.out.resumed = true →
        s.keyedRanges.length = s.out.drawn.length ∧
        ∀ (i slot : Nat) (c : Cue) (L e x : Nat), s.out.drawn[i]? = some slot → s.cueAt slot = some c →
          L = c.streamer.toNat → c.cueIn < s.day → s.ref.position < s.day →
          e = (s.ref.position + L + s.day - c.cueIn) % s.day * 256 +
            (if s.ref.transport = .play then 256 * s.rasterLine / linesOf s.straps.profile else 0) →
          x = e * W / (L * 256) →
            s.keyedRanges[i]? = some (x, min (x + Bw) W) ∧
              ((s.ref.position + L + s.day - c.cueIn) % s.day < L → x < W))) ∧
    (s.keyingPermitted = true ↔
      s.straps.role = .booth ∧ s.station.state = .active ∧ (s.ref.lock = .locked ∨ s.ref.lock = .holdover) ∧
        (s.ref.transport = .play ∨ s.ref.transport = .vari ∨ s.ref.transport = .stopped))

/-- The cue outputs at every frame boundary, accepted or synthesized (R73, R74, R78, R79, R82 to R85): the sweep counts, drawing
resumes, the drawn entries are the two nearest of those STREAMING, flash goes where keying is not permitted, and BEEP and
LIGHT are judged. That drawing has resumed is the bit `resumed` (notes/assumptions/15.md). -/
def Obligations.BoundaryOpensTheOutputsOfItsFrame : Prop :=
  ∀ (c : Instr) (s t : State), boundary c s → exec c s = .next t →
    t.out.sweep = s.out.sweep ∧
      t.out.sweepCounter = (if s.out.sweep then (s.out.sweepCounter + 1) % 48 else s.out.sweepCounter) ∧
      t.out.gateView = s.out.gateView ∧ t.out.resumed = t.keyingPermitted ∧ t.out.beep = t.beepLevel ∧
      t.out.light = t.lightLevel ∧ (t.keyingPermitted = false → t.out.drawn = [] ∧ t.out.flash = false) ∧
      (t.keyingPermitted = true → (t.entries.map Entry.slot).Nodup →
        t.out.drawn.length = min 2 (t.entries.filter (fun e => e.phase == .streaming)).length ∧ t.out.drawn.Nodup ∧
          ∀ slot ∈ t.out.drawn, ∃ e ∈ t.entries, e.slot = slot ∧ e.phase = .streaming ∧
            ∀ x ∈ t.entries, x.phase = .streaming → x.slot ∉ t.out.drawn →
              fwd s.day t.ref.position e.marks.cueIn ≤ fwd s.day t.ref.position x.marks.cueIn) ∧
      (s.activeBooth = true → rolling t.ref.transport = true →
        ∀ b ∈ t.out.beeps, covers s.day b.mark (onward s.day b.mark b.duration) t.ref.position = true)

/-! ### The lookahead -/

/-- R46 to R48, R50, R51, R56: the marks of a cue lie at their distances, the phase and the take state of a position follow
from its distance to window open, and the candidates are the LOADED and selected slots whose window covers the position or
opens ahead, in ascending key and then slot. -/
def Obligations.MarksPhasesAndCandidates : Prop :=
  (∀ (p : Profile) (c : Cue) (L b pre post len lead : Nat) (m : Marks), CueGood p c →
    L = c.streamer.toNat → b = c.beepCount.toNat → pre = c.pre.toNat → post = c.post.toNat →
    len = fwd (dayOf p) c.cueIn c.cueOut → lead = max (max L (b * fpsOf p)) pre + 2 * fpsOf p → m = marksOf p c →
      m.cueIn = c.cueIn ∧ m.cueOut = c.cueOut ∧ fwd (dayOf p) m.windowOpen m.cueIn = lead ∧
        fwd (dayOf p) m.punchIn m.cueIn = pre ∧ fwd (dayOf p) m.cueOut m.punchOut = post ∧
        fwd (dayOf p) m.windowOpen m.punchOut = lead + len + post ∧
        (m.beep1.isSome = decide (1 ≤ b) ∧ m.beep2.isSome = decide (2 ≤ b) ∧ m.beep3.isSome = decide (3 ≤ b)) ∧
        (∀ x, m.beep1 = some x → fwd (dayOf p) x m.cueIn = fpsOf p) ∧
        (∀ x, m.beep2 = some x → fwd (dayOf p) x m.cueIn = 2 * fpsOf p) ∧
        (∀ x, m.beep3 = some x → fwd (dayOf p) x m.cueIn = 3 * fpsOf p) ∧
        m.streamerStart.isSome = decide (0 < L) ∧
        (∀ x, m.streamerStart = some x → fwd (dayOf p) x m.cueIn = L) ∧
        (∀ k x, m.at k = some x → x < dayOf p) ∧
        (∀ q f : Nat, f = fwd (dayOf p) m.windowOpen q →
          phaseAt (dayOf p) q m =
              (if lead + len + post ≤ f then .waiting
              else if f < lead - L then .standby
              else if f < lead then .streaming
              else if f < lead + len then .speaking
              else .tail) ∧
            freshTake (dayOf p) q m = (if f < lead + len + post ∧ lead - pre ≤ f then .late else .idle))) ∧
  (∀ s : State,
    (∀ slot, slot ∈ s.candidates ↔ slot < 128 ∧ ∃ c m, s.cueAt slot = some c ∧ c.selected = true ∧
      m = marksOf s.straps.profile c ∧
      (fwd s.day m.windowOpen s.ref.position < fwd s.day m.windowOpen m.punchOut ∨
        (0 < fwd s.day s.ref.position m.windowOpen ∧ fwd s.day s.ref.position m.windowOpen ≤ s.day / 2))) ∧
    s.candidates.Pairwise (fun a b => ∀ x y, s.cueAt a = some x → s.cueAt b = some y →
      signedDelta s.day s.ref.position (marksOf s.straps.profile x).windowOpen <
          signedDelta s.day s.ref.position (marksOf s.straps.profile y).windowOpen ∨
        (signedDelta s.day s.ref.position (marksOf s.straps.profile x).windowOpen =
            signedDelta s.day s.ref.position (marksOf s.straps.profile y).windowOpen ∧ a < b)))

/-- Recomputation (R51 to R56, R113 to R115, R123): RUNNING entries stay, candidates fill the four places in candidate order,
what is not in the new set leaves with RELEASE EVICT for an open claim, and every new entry is as R55 makes it, with a CLAIM
of the next number where a recorder of its track's bank is present. -/
def Obligations.RecomputationKeepsAndFillsFourPlaces : Prop :=
  ∀ s t : State, LookInv s → CueInv s → s.running.length ≤ 2 → recompute s = t →
    (s.straps.role ≠ .booth ∨ s.station.state ≠ .active ∨ s.ref.transport = .noRef → t = s) ∧
    (s.straps.role = .booth → s.station.state = .active → s.ref.transport ≠ .noRef →
      t = { s with
        entries := t.entries, out := { s.out with beeps := t.out.beeps, drawn := t.out.drawn }
        claimCounter := t.claimCounter, line := { s.line with queue := t.line.queue }
        port := { s.port with sticky := t.port.sticky } } ∧
      flagsKept s t ∧
      (∀ slot, t.inLookahead slot = true ↔
        slot ∈ s.running.map Entry.slot ∨
          slot ∈ (s.candidates.filter (fun x => !(s.running.any (fun e => e.slot == x)))).take (4 - s.running.length)) ∧
      t.entries.Pairwise (fun a b => a.key < b.key ∨ (a.key = b.key ∧ a.slot < b.slot)) ∧
      (∀ e ∈ t.entries, e.key = signedDelta s.day s.ref.position e.marks.windowOpen) ∧
      (∀ e ∈ s.entries, t.inLookahead e.slot = true →
        { e with key := signedDelta s.day s.ref.position e.marks.windowOpen } ∈ t.entries) ∧
      (∀ e ∈ s.entries, t.inLookahead e.slot = false →
        (∀ b ∈ t.out.beeps, b.slot ≠ e.slot) ∧ e.slot ∉ t.out.drawn ∧
          ∀ track n, s.trackOf e.slot = some track → e.claimNo = some n → e.claim = .pending ∨ e.claim = .granted →
            given t 0#4 (.release { track := track, claimNo := n, reason := .evict })) ∧
      (∀ e ∈ t.entries, s.inLookahead e.slot = false → ∃ c m, s.cueAt e.slot = some c ∧
        m = marksOf s.straps.profile c ∧ e.marks = m ∧ e.phase = phaseAt s.day s.ref.position m ∧ e.crossed = 0#9 ∧
        e.stoodDown = false ∧ e.take = freshTake s.day s.ref.position m ∧ e.serial = none ∧ e.gateSeenOpen = false ∧
        e.gateCut = false ∧ e.denyReason = none ∧ e.resent = false ∧
        (c.track = none → e.claim = .none ∧ e.claimNo = none) ∧
        (∀ track, c.track = some track →
          (s.recorderPresent track = false → e.claim = .noRecorder ∧ e.claimNo = none) ∧
          (s.recorderPresent track = true → e.claim = .pending ∧ e.answerTimer = 40 ∧ ∃ n, e.claimNo = some n ∧
            given t 0#4 (.claim
              { track := track, claimNo := n, room := s.straps.room.zeroExtend 8, cueId := c.cueId,
                f1 := BitVec.ofNat 24 m.punchIn, f2 := BitVec.ofNat 24 m.punchOut, resend := false })))) ∧
      (t.entries.filter (fun e => !s.inLookahead e.slot && e.claim == .pending)).map Entry.claimNo =
        (List.range (t.entries.filter (fun e => !s.inLookahead e.slot && e.claim == .pending)).length).map
          (fun i => some (s.claimCounter + BitVec.ofNat 8 (i + 1))) ∧
      t.claimCounter = s.claimCounter +
        BitVec.ofNat 8 (t.entries.filter (fun e => !s.inLookahead e.slot && e.claim == .pending)).length)

/-- A boundary in PLAY or VARI that moves the position by one or two frames (R49, R58 to R62, R65, R78, R81, R83): an entry whose
punch-out is taken retires, with RELEASE DONE for an open claim; every other that stays has exactly the marks passed
crossed besides; a cue-in sets flash, and each beep mark begins its interval. -/
def Obligations.BoundaryTakesTheMarksItPasses : Prop :=
  ∀ (c : Instr) (s t : State) (d : Nat), RefInv s → CueInv s → LookInv s → TakeInv s → FlightInv s →
    takesMarks c s t d →
      (∀ e ∈ s.entries,
        (markHit s d e .punchOut = true → t.inLookahead e.slot = false ∧
          (markHit s d e .punchIn = false → ∀ track n, s.trackOf e.slot = some track → e.claimNo = some n →
            e.claim = .pending ∨ e.claim = .granted →
              given t 0#4 (.release { track := track, claimNo := n, reason := .done }))) ∧
        (∀ x, t.entryOf e.slot = some x →
          x = { e with
            key := signedDelta s.day t.ref.position e.marks.windowOpen, phase := phaseAt s.day t.ref.position e.marks
            crossed := x.crossed, take := x.take, serial := x.serial, claim := x.claim, denyReason := x.denyReason
            answerTimer := x.answerTimer, resent := x.resent } ∧
          (∀ k, x.isCrossed k = (e.isCrossed k || markHit s d e k)) ∧
          (markHit s d e .punchIn = false →
            x.take = e.take ∧ x.serial = e.serial ∧ x.claim = e.claim ∧ x.denyReason = e.denyReason ∧
              x.answerTimer = e.answerTimer ∧ x.resent = e.resent))) ∧
      (∀ x ∈ t.entries, s.inLookahead x.slot = false → x.crossed = 0#9 ∧ x.stoodDown = false ∧ x.take ≠ .running) ∧
      t.out.flash = (!s.out.sweep && s.entries.any (fun e => markHit s d e .cueIn)) ∧
      (∀ b : BeepInterval, b ∈ t.out.beeps ↔
        covers s.day b.mark (onward s.day b.mark b.duration) t.ref.position = true ∧
          (s.inLookahead b.slot = true → t.inLookahead b.slot = true) ∧
          (b ∈ s.out.beeps ∨ ∃ e ∈ s.entries, ∃ k ∈ [MarkKind.beep3, .beep2, .beep1],
            e.slot = b.slot ∧ e.stoodDown = false ∧ markHit s d e k = true ∧ e.marks.at k = some b.mark ∧
              (s.cueAt e.slot).map (fun x => x.beepDur.toNat) = some b.duration))

/-- A boundary into STOPPED, PLAY or VARI from NO_REF, SETTLING, SHUTTLE or REVERSE (R58, R63, R64, R83, R114): no mark and no take
is taken, every entry begins a new pass, open claims are kept and those denied, given up or given back are made again where
the take state is IDLE and the slot has a track. The claim counter rises by one for each claim made, and each takes its new
value as its number: first the new entries, then the kept ones, each in entry order (notes/assumptions/14.md). -/
def Obligations.RebuildBeginsANewPass : Prop :=
  ∀ (c : Instr) (s t : State), RefInv s → CueInv s → LookInv s → TakeInv s → FlightInv s → boundary c s →
    exec c s = .next t → s.activeBooth = true → settled s.ref.transport = false → settled t.ref.transport = true →
      t.takes = s.takes ∧ t.cues = s.cues ∧ t.out.beeps = [] ∧ t.out.flash = false ∧
      (∀ x ∈ t.entries,
        x.crossed = 0#9 ∧ x.stoodDown = false ∧ x.take = freshTake s.day t.ref.position x.marks ∧ x.serial = none ∧
          x.gateSeenOpen = false ∧ x.gateCut = false ∧ x.phase = phaseAt s.day t.ref.position x.marks ∧
          x.key = signedDelta s.day t.ref.position x.marks.windowOpen) ∧
      (∀ e ∈ s.entries, ∀ x, t.entryOf e.slot = some x → x.marks = e.marks ∧
        (e.claim = .pending ∨ e.claim = .granted ∨ e.claim = .none ∨ x.take = .late ∨ s.trackOf e.slot = none →
          x.claim = e.claim ∧ x.claimNo = e.claimNo ∧ x.denyReason = e.denyReason ∧ x.answerTimer = e.answerTimer ∧
            x.resent = e.resent) ∧
        (e.claim = .denied ∨ e.claim = .noRecorder ∨ e.claim = .released → x.take = .idle →
          ∀ track, s.trackOf e.slot = some track → x.denyReason = none ∧ x.resent = false ∧
            (s.recorderPresent track = false → x.claim = .noRecorder ∧ x.claimNo = none) ∧
            (s.recorderPresent track = true → x.claim = .pending ∧ x.answerTimer = 40 ∧ ∃ n, x.claimNo = some n ∧
              given t 0#4 (.claim
                { track := track, claimNo := n, room := s.straps.room.zeroExtend 8
                  cueId := ((s.cueAt e.slot).map Cue.cueId).getD 0#16, f1 := BitVec.ofNat 24 e.marks.punchIn
                  f2 := BitVec.ofNat 24 e.marks.punchOut, resend := false })))) ∧
      ∀ (claimable : List Entry) (claims : List Nat),
        claimable = t.entries.filter (fun x => (s.trackOf x.slot).any (fun track => s.recorderPresent track)) →
        claims = ((claimable.filter (fun x => !s.inLookahead x.slot)) ++
          claimable.filter (fun x => x.take == .idle && (s.entryOf x.slot).any (fun e =>
            e.claim == .denied || e.claim == .noRecorder || e.claim == .released))).map Entry.slot →
          t.claimCounter = s.claimCounter + BitVec.ofNat 8 claims.length ∧
          ∀ (i slot : Nat), claims[i]? = some slot →
            (t.entryOf slot).bind Entry.claimNo = some (s.claimCounter + BitVec.ofNat 8 (i + 1))

/-! ### The station unit -/

/-- TICK, JOIN_TIMER_EXPIRY, BEACON_TIMER_EXPIRY and ANSWER_TIMER_EXPIRY (R18, R115, R116, R159, R160, R169, R171, R173, R175):
every count a tick drives, and nothing else; ACTIVE with its first BEACON, and a further BEACON, each with the timer at
100 + r of a new draw; the same claim sent again, and then given up. An expiry that falls due is its own command, and undue
it changes nothing (notes/assumptions/2.md). A renewed BEACON that is not under attempt loses its repeat mark
(notes/assumptions/12.md). -/
def Obligations.TicksDriveTheTimersAndTheirExpiries : Prop :=
  (∀ s : State,
     exec .tick s =
       .next { s with
         ref := { s.ref with quietTicks := min (s.ref.quietTicks + 1) 10 }
         entries := s.entries.map (fun e =>
           { e with answerTimer := if e.claim = .pending then e.answerTimer - 1 else e.answerTimer })
         station := { s.station with
           prng := if s.station.prng.getLsbD 0 then (s.station.prng >>> 1) ^^^ 0xB400#16 else s.station.prng >>> 1
           joinTimer := if s.station.state = .joining then s.station.joinTimer - 1 else s.station.joinTimer
           beaconTimer := if s.station.state = .active then s.station.beaconTimer - 1 else s.station.beaconTimer
           peers := s.station.peers.map (fun p => { p with ticks := min (p.ticks + 1) 255 }) } }) ∧
  (∀ s : State,
     (s.station.state = .joining → s.station.joinTimer = 0 → s.line.queue = [] → ∃ t,
       exec .joinTimerExpiry s = .next t ∧
         t = { s with
           station := { s.station with
             state := .active, prng := prngStep s.station.prng
             beaconTimer := 100 + (prngStep s.station.prng).toNat % 16 }
           line := { s.line with queue := [newMessage .beacon .internal] }
           out := { s.out with
             drawn := t.out.drawn, resumed := t.out.resumed, flash := t.out.flash, beep := t.beepLevel
             light := t.lightLevel } }) ∧
     (s.station.state = .active → s.station.beaconTimer = 0 →
       (s.line.queue.any TxMsg.isBeacon = false → s.line.queue.length < 8 →
         exec .beaconTimerExpiry s =
           .next { s with
             station := { s.station with
               prng := prngStep s.station.prng, beaconTimer := 100 + (prngStep s.station.prng).toNat % 16 }
             line := { s.line with queue := insertTx (newMessage .beacon .internal) s.line.queue } }) ∧
       (s.line.queue.any TxMsg.isBeacon = false → 8 ≤ s.line.queue.length →
         exec .beaconTimerExpiry s =
           .next { s with
             station := { s.station with
               prng := prngStep s.station.prng, beaconTimer := 100 + (prngStep s.station.prng).toNat % 16 }
             port := { s.port with sticky := withFlag .queueDrop s.port.sticky } }) ∧
       (s.line.queue.any TxMsg.isBeacon = true →
         exec .beaconTimerExpiry s =
           .next { s with
             station := { s.station with
               prng := prngStep s.station.prng, beaconTimer := 100 + (prngStep s.station.prng).toNat % 16 }
             line := { s.line with queue := s.line.queue.map (fun m =>
               if m.isBeacon then { m with repeatMark := m.underAttempt } else m) } })) ∧
     (¬ (s.station.state = .joining ∧ s.station.joinTimer = 0) → exec .joinTimerExpiry s = .next s) ∧
     (¬ (s.station.state = .active ∧ s.station.beaconTimer = 0) → exec .beaconTimerExpiry s = .next s)) ∧
  (∀ (slot : Byte) (s : State),
     (∀ (e : Entry) (c : Cue) (track n : Byte), s.entryOf slot.toNat = some e → s.cueAt slot.toNat = some c →
       c.track = some track → e.claimNo = some n → e.claim = .pending → e.answerTimer = 0 → e.resent = false →
         exec (.answerTimerExpiry slot) s =
           .next (State.give 0#4
             (.claim
               { track := track, claimNo := n, room := s.straps.room.zeroExtend 8, cueId := c.cueId,
                 f1 := BitVec.ofNat 24 e.marks.punchIn, f2 := BitVec.ofNat 24 e.marks.punchOut, resend := true })
             { s with entries := s.entries.map (fun x =>
                 if x.slot = slot.toNat then { x with answerTimer := 40, resent := true } else x) })) ∧
     (∀ e : Entry, s.entryOf slot.toNat = some e → e.claim = .pending → e.answerTimer = 0 → e.resent = true →
       exec (.answerTimerExpiry slot) s =
         .next { s with entries := s.entries.map (fun x =>
           if x.slot = slot.toNat then { x with claim := .noRecorder, answerTimer := 0, resent := false } else x) }) ∧
     ((s.entryOf slot.toNat).all (fun e => decide (e.claim ≠ .pending ∨ e.answerTimer ≠ 0)) = true →
       exec (.answerTimerExpiry slot) s = .next s))

/-- LOSS_BY_TIME and PEER_LOSS (R18, R19, R73, R89, R117, R124, R136, R139, R170, R175): where the loss of the reference is due
the lock enters UNLOCKED at once, with its BEACON, nothing drawn, a RELEASE ABORT for the open claim of each take in flight,
and each open gate cut with REF_LOST and its reservation gone; the takes themselves are those of
TakesInFlightAreKeptOrUnwound. A peer lost is marked not present with its fields kept, its pairs leave the gate view, claims
on its bank are given up, its reservations leave every track, and each gate that named one is cut with PEER_LOST. Undue,
nothing changes (notes/assumptions/2.md). -/
def Obligations.LossesByTimeReachEveryBlock : Prop :=
  (∀ s : State, TrackInv s →
     (s.ref.quietTicks = 10 → s.ref.lock ≠ .unlocked → ∃ t,
       exec .lossByTime s = .next t ∧ keptByReports s t ∧ flagsKept s t ∧
         t.ref = { s.ref with lock := .unlocked, runCount := 0, holdoverCount := 0, synthCount := 0, transport := .noRef } ∧
         t.hasFlag .refUnlock = true ∧ t.out.drawn = [] ∧ t.out.flash = false ∧ t.out.beep = false ∧
         t.out.light = t.lightLevel ∧ t.claimCounter = s.claimCounter ∧ beaconOfChange s t ∧
         (∀ slot e, s.entryOf slot = some e → e.take ≠ .running → t.entryOf slot = some e) ∧
         t.tracks = s.tracks.map (fun x =>
           { named := none, table := x.table.filter (fun r => !namedBy x r) }) ∧
         t.hasFlag .gateCut = (s.hasFlag .gateCut || s.tracks.any (fun x => x.named.isSome)) ∧
         (LookInv s → LineInv s →
           sentInOrder s t (releasesOf .abort s.running s ++ cutsOf .refLost (fun _ => true) s))) ∧
     (s.ref.quietTicks ≠ 10 ∨ s.ref.lock = .unlocked → exec .lossByTime s = .next s)) ∧
  (∀ (a : Addr) (s : State) (p : Peer), s.peerAt a = some p → TrackInv s →
     (p.present = true → 200 ≤ p.ticks → ∃ t,
       exec (.peerLoss a) s = .next t ∧
         t = { s with
           entries := t.entries, out := t.out, tracks := t.tracks
           station := { s.station with peers := s.station.peers.set a.toNat { p with present := false } }
           line := { s.line with queue := t.line.queue }
           port := { s.port with sticky := t.port.sticky } } ∧
         flagsKept s t ∧ t.out.gateView = s.out.gateView.filter (fun x => x.1 != a) ∧ t.out.light = t.lightLevel ∧
         t.entries = s.entries.map (fun e =>
           if (p.info.any (fun i => isRecorder i.role && (s.trackOf e.slot).any (fun tr => bankRole tr == i.role))) &&
               (e.claim == .pending || e.claim == .granted) then
             { e with claim := .noRecorder, answerTimer := 0, resent := false }
           else e) ∧
         t.tracks.map Track.table = s.tracks.map (fun x => x.table.filter (fun r => r.claimant != a)) ∧
         t.hasFlag .gateCut =
           (s.hasFlag .gateCut || s.tracks.any (fun x => x.named.any (fun r => r.claimant == a))) ∧
         (BookingInv s →
           t.tracks.map Track.named = s.tracks.map (fun x => x.named.filter (fun r => r.claimant != a)) ∧
           (LineInv s → sentInOrder s t (cutsOf .peerLost (fun r => r.claimant == a) s)))) ∧
     (p.present = false ∨ p.ticks < 200 → exec (.peerLoss a) s = .next s))

/-- HEADER_RECEIVED (R68, R142, R148, R151, R162, R165, R174, R176, R177): a bad header, a good header of another station, a
header that the station drives itself, which through a collision too is no clash, and a clash, which in HELD or MUTED sets its flag, and in JOINING or ACTIVE mutes the station with its
work emptied and its outputs inactive, tables, view, inbox and counters kept; and the header of a frame abandoned at a reset
is not judged. That the keyed columns are dropped but for the sweep is notes/assumptions/16.md, that drawing waits for a
boundary notes/assumptions/15.md, the abandoned frame notes/assumptions/5.md, and the own header notes/assumptions/25.md. -/
def Obligations.HeaderReceivedIsJudgedAndHandedOn : Prop :=
  ∀ (header : BitVec 24) (check : Byte) (s : State),
    (s.line.receiver = .abandoned none →
      (∀ h, (judgeHeader header check).good = some h →
        exec (.headerReceived header check) s =
          .next { s with line := { s.line with receiver := .abandoned (some h), idle := none } }) ∧
      ((judgeHeader header check).good = none →
        exec (.headerReceived header check) s =
          .next { s with line := { s.line with receiver := .ignoring, idle := none } })) ∧
    (s.line.receiver ≠ .abandoned none →
      ((judgeHeader header check).good = none → ∃ t,
        exec (.headerReceived header check) s = .next t ∧
          t = { s with
            line := { s.line with
              receiver := .ignoring, idle := none, hdrBad := min (s.line.hdrBad + 1) 65535
              hdrFixed := if (judgeHeader header check).fixed then min (s.line.hdrFixed + 1) 65535 else s.line.hdrFixed }
            port := { s.port with sticky := t.port.sticky } } ∧
          (∀ f, t.hasFlag f =
            (s.hasFlag f || decide (f = .lineHdrBad) || ((judgeHeader header check).fixed && decide (f = .lineHdrFixed))))) ∧
      (∀ h, (judgeHeader header check).good = some h →
        headerSource h ≠ s.straps.address → ∃ t,
        exec (.headerReceived header check) s = .next t ∧
          t = { s with
            station := { s.station with
              peers := s.station.peers.modify (headerSource h).toNat (fun p => { p with present := true, ticks := 0 }) }
            line := { s.line with
              receiver := .taking h, idle := none
              hdrFixed := if (judgeHeader header check).fixed then min (s.line.hdrFixed + 1) 65535 else s.line.hdrFixed }
            port := { s.port with sticky := t.port.sticky } } ∧
          (∀ f, t.hasFlag f = (s.hasFlag f || ((judgeHeader header check).fixed && decide (f = .lineHdrFixed))))) ∧
      (∀ h, s.line.receiver = .incoming (some header) → (judgeHeader header check).good = some h →
        headerSource h = s.straps.address → ∃ t,
        exec (.headerReceived header check) s = .next t ∧
          t = { s with
            line := { s.line with
              receiver := .taking h, idle := none
              hdrFixed := if (judgeHeader header check).fixed then min (s.line.hdrFixed + 1) 65535 else s.line.hdrFixed }
            port := { s.port with sticky := t.port.sticky } } ∧
          (∀ f, t.hasFlag f = (s.hasFlag f || ((judgeHeader header check).fixed && decide (f = .lineHdrFixed))))) ∧
      (∀ h, s.line.receiver ≠ .incoming (some header) → judgeHeader header check = { good := some h, fixed := false } →
        headerSource h = s.straps.address → s.station.state = .held ∨ s.station.state = .muted →
        exec (.headerReceived header check) s =
          .next { s with
            line := { s.line with receiver := .taking h, idle := none }
            port := { s.port with sticky := withFlag .addrClash s.port.sticky } }) ∧
      (∀ h : BitVec 24,
        s.line.receiver ≠ .incoming (some header) → (judgeHeader header check).good = some h →
          headerSource h = s.straps.address → s.station.state = .joining ∨ s.station.state = .active → ∃ t,
            exec (.headerReceived header check) s = .next t ∧
              t = { s with
                station := { s.station with state := .muted, joinTimer := 0, beaconTimer := 0 }
                entries := [], cues := t.cues, out := t.out, tracks := t.tracks
                takes := { s.takes with log := t.takes.log, journal := t.takes.journal }
                line := { s.line with
                  queue := [], attempt := none, receiver := .taking h, idle := none
                  hdrFixed := if (judgeHeader header check).fixed then min (s.line.hdrFixed + 1) 65535 else s.line.hdrFixed }
                port := { s.port with sticky := t.port.sticky } } ∧
              flagsKept s t ∧ t.hasFlag .addrClash = true ∧ (t.hasFlag .gateCut = true → s.hasFlag .gateCut = true) ∧
              (∀ x ∈ t.tracks, x.named = none ∧ x.table = []) ∧ t.cues.map imageOf = s.cues.map imageOf ∧
              t.out = { s.out with
                drawn := [], resumed := false, flash := false, beeps := [], beep := false, light := .off
                keyed := if s.out.sweep then s.out.keyed else [] }))

/-! ### Reception -/

/-- CUT_SHORT_FRAME and FRAME_JUDGED_BAD (R145, R149, R150, R162, R165): a busy period that ends early, by where it ended,
after which the line is idle; a header not taken before is judged from the bits; a CRC mismatch, which counts and flags,
and a format fault, which flags; an abandoned frame is not judged (notes/assumptions/5.md); good bytes, which are not
FRAME_JUDGED_BAD's, change nothing (notes/assumptions/6.md). -/
def Obligations.CutShortAndBadFramesAreCounted : Prop :=
  (∀ (bits : List Bool) (s : State),
    (bits.length < 8 ∨ byteAt 0 bits ≠ 0x5A#8 ∨ s.line.receiver = .abandoned none ∨
        (40 ≤ bits.length ∧ (s.line.receiver = .ignoring ∨ ∃ h, s.line.receiver = .abandoned (some h))) →
      exec (.cutShortFrame bits) s =
        .next { s with line := { s.line with
          receiver := .awaiting, idle := if s.line.attempt.isSome then none else some 1 } }) ∧
    (s.line.receiver ≠ .abandoned none → byteAt 0 bits = 0x5A#8 → 8 ≤ bits.length → bits.length < 40 →
      exec (.cutShortFrame bits) s =
        .next { s with
          line := { s.line with
            receiver := .awaiting, idle := if s.line.attempt.isSome then none else some 1
            hdrBad := min (s.line.hdrBad + 1) 65535 }
          port := { s.port with sticky := withFlag .lineHdrBad s.port.sticky } }) ∧
    (∀ h, byteAt 0 bits = 0x5A#8 → 40 ≤ bits.length → bits.length < 56 + 8 * headerLen h →
      s.line.receiver = .taking h →
      exec (.cutShortFrame bits) s =
        .next { s with
          line := { s.line with
            receiver := .awaiting, idle := if s.line.attempt.isSome then none else some 1
            crcBad := min (s.line.crcBad + 1) 65535 }
          port := { s.port with sticky := withFlag .lineCrcBad s.port.sticky } }) ∧
    (byteAt 0 bits = 0x5A#8 → 40 ≤ bits.length → s.line.receiver = .awaiting ∨ (∃ own, s.line.receiver = .incoming own) → ∃ u,
      exec (.headerReceived (headerOfBits bits) (byteAt 4 bits)) s = .next u ∧
        exec (.cutShortFrame bits) s = exec (.cutShortFrame bits) u)) ∧
  (∀ (header : BitVec 24) (payload : List Byte) (crc : Word16) (s : State),
    s.line.receiver = .abandoned none ∨ s.line.receiver = .abandoned (some header) →
      exec (.frameJudgedBad header payload crc) s = .next (judged s)) ∧
  (∀ (header : BitVec 24) (payload : List Byte) (crc : Word16) (s : State), s.line.receiver = .taking header →
    (frameCrc header payload ≠ crc →
      exec (.frameJudgedBad header payload crc) s =
        .next { s with
          line := { s.line with receiver := .awaiting, idle := none, crcBad := min (s.line.crcBad + 1) 65535 }
          port := { s.port with sticky := withFlag .lineCrcBad s.port.sticky } }) ∧
    (frameCrc header payload = crc →
      (classOfCode (headerKind header) ≠ some (headerClass header) ∨ 32 < payload.length ∨
        messageOf (headerKind header) payload = none) →
      exec (.frameJudgedBad header payload crc) s =
        .next { s with
          line := { s.line with receiver := .awaiting, idle := none }
          port := { s.port with sticky := withFlag .lineFormat s.port.sticky } }) ∧
    (∀ m, judgeFrame header payload crc = .good m → exec (.frameJudgedBad header payload crc) s = .next s))

/-- Every good frame that is not delivered, not handed on in the station state, or without an owner in the role changes
nothing but the receiver's place and the idle count (R27, R108, R145, R151, R152); LOAD, CLEAR, SELECT, DIGEST and MARK at a
RECORDER or DESK in ACTIVE are answered WRONG_ROLE, and no table changes (R28, R108). -/
def Obligations.UnownedFramesChangeNothing : Prop :=
  (∀ (h : FrameHead) (m : Message) (s : State), headerTaken h m s →
     (delivered s.straps.address h m && handedIn s.station.state m && owned s.straps.role h.broadcast m) = false →
       exec (rowOf h m) s = .next (judged s)) ∧
  (∀ (h : FrameHead) (s : State), s.straps.role ≠ .booth → h.broadcast = false →
     (∀ m : LoadMsg, handed h (.load m) s →
       exec (.load h m) s = .next (State.give h.source (.reply (plainReply .load m.slot .wrongRole)) (judged s))) ∧
     (∀ m : RangeMsg, handed h (.clear m) s →
       exec (.clear h m) s = .next (State.give h.source (.reply (plainReply .clear m.first .wrongRole)) (judged s))) ∧
     (∀ m : RangeMsg, handed h (.select m true) s →
       exec (.selectOn h m) s = .next (State.give h.source (.reply (plainReply .select m.first .wrongRole)) (judged s))) ∧
     (∀ m : RangeMsg, handed h (.select m false) s →
       exec (.selectOff h m) s = .next (State.give h.source (.reply (plainReply .select m.first .wrongRole)) (judged s))) ∧
     (∀ m : DigestMsg, handed h (.digest m) s →
       exec (.digest h m) s = .next (State.give h.source (.reply (plainReply .digest m.first .wrongRole)) (judged s))) ∧
     (∀ m : MarkMsg, handed h (.mark m) s →
       exec (.mark h m) s = .next (State.give h.source (.reply (plainReply .mark m.slot .wrongRole)) (judged s))))

/-- A good frame's row without its header's row stands for both, and the frame abandoned at a reset is not judged
(R151, R165; the model's choice, notes/assumptions/5.md). -/
def Obligations.WholeFrameRowsAreHeaderThenFrame : Prop :=
  ∀ (h : FrameHead) (m : Message) (s : State),
    (s.line.receiver ≠ .abandoned none → s.line.receiver ≠ .abandoned (some (headerOfFrame h m)) →
      ¬ headerTaken h m s → ∃ u,
        exec (.headerReceived (headerOfFrame h m) (checkByte (headerOfFrame h m))) s = .next u ∧ headerTaken h m u ∧
          exec (rowOf h m) s = exec (rowOf h m) u) ∧
    (s.line.receiver = .abandoned none ∨ s.line.receiver = .abandoned (some (headerOfFrame h m)) →
      exec (rowOf h m) s = .next (judged s))

/-- BEACON, REPLY and TAKE_NOTE (R110, R152, R161, R174): the peer's fields in every station state, the inbox or
INBOX_OVERRUN, and the desk's log with TAKE_END. A BEACON's room above 3 and position above 2,591,999 are kept as carried by
the model's choice (notes/assumptions/35.md). -/
def Obligations.BeaconReplyAndTakeNoteAreStored : Prop :=
  ∀ (h : FrameHead) (s : State),
    (∀ m : BeaconMsg, headerTaken h (.beacon m) s → h.source ≠ s.straps.address →
      exec (.beacon h m) s =
        .next { judged s with station := { s.station with
          peers := s.station.peers.modify h.source.toNat (fun p => { p with info := some m }) } }) ∧
    (∀ m : ReplyMsg, handed h (.reply m) s → h.broadcast = false →
      exec (.reply h m) s =
        .next (if s.line.inbox.length < 16 then
          { s with line := { s.line with
            receiver := .awaiting, idle := none, inbox := s.line.inbox ++ [{ source := h.source, reply := m }] } }
        else
          { judged s with port := { s.port with sticky := withFlag .inboxOverrun s.port.sticky } })) ∧
    (∀ m : TakeNoteMsg, handed h (.takeNote m) s → s.straps.role = .desk →
      exec (.takeNote h m) s =
        .next { judged s with
          takes := { s.takes with deskLog :=
            if s.takes.deskLog.length < 32 then s.takes.deskLog ++ [{ source := h.source, note := m }]
            else s.takes.deskLog.drop 1 ++ [{ source := h.source, note := m }] }
          port := { s.port with sticky := withFlag .takeEnd s.port.sticky } })

/-- CLAIM at a recorder (R128 to R132): the first check of R130 that holds decides, the ANSWER goes to the claimant after
the table change, and the gate stays as it was (R131). The place before the first larger F1 in a table that movement has left
out of that order is the model's choice (notes/assumptions/30.md), and so is a room above 3 kept with all eight bits
(notes/assumptions/31.md). -/
def Obligations.ClaimIsDecidedByItsFirstCheck : Prop :=
  ∀ (h : FrameHead) (m : ClaimMsg) (s : State), handed h (.claim m) s → isRecorder s.straps.role = true → TrackInv s →
    (ownTrack s.straps.role m.track = none → exec (.claim h m) s = .next (judged s)) ∧
    (∀ (i : Nat) (x : Track), ownTrack s.straps.role m.track = some i → s.tracks[i]? = some x →
      ∃ (d : Decision) (table : List Reservation),
        exec (.claim h m) s =
            .next (State.give h.source (.answer { claimNo := m.claimNo, track := m.track, decision := d })
              { judged s with tracks := s.tracks.set i { x with table := table } }) ∧
          (if x.table.any (fun r => r.claimant == h.source && r.claimNo == m.claimNo) then d = .grant ∧ table = x.table
          else if ¬ (m.f1.toNat < s.day ∧ m.f2.toNat < s.day ∧ 1 ≤ fwd s.day m.f1.toNat m.f2.toNat ∧
              fwd s.day m.f1.toNat m.f2.toNat ≤ 9120) then d = .denyBadRange ∧ table = x.table
          else if covers s.day m.f1.toNat m.f2.toNat s.ref.position then d = .denyTooLate ∧ table = x.table
          else
            match x.table.find? (fun r =>
              r.claimant != h.source && rangesOverlap s.day m.f1.toNat m.f2.toNat r.f1 r.f2) with
            | some r => d = .denyOverlap (r.claimant.zeroExtend 8) ∧ table = x.table
            | none =>
              if 4 ≤ x.table.length then d = .denyFull ∧ table = x.table
              else
                d = .grant ∧ ∃ before after : List Reservation,
                  x.table = before ++ after ∧
                    table = before ++
                      { claimant := h.source, claimNo := m.claimNo, room := m.room, cueId := m.cueId,
                        f1 := m.f1.toNat, f2 := m.f2.toNat } :: after ∧
                    (∀ r ∈ before, fwd s.day s.ref.position r.f1 ≤ fwd s.day s.ref.position m.f1.toNat) ∧
                    (∀ r, after.head? = some r →
                      fwd s.day s.ref.position m.f1.toNat < fwd s.day s.ref.position r.f1)))

/-- A boundary at an ACTIVE recorder (R128, R133 to R136, R140): where the transport leaves PLAY or VARI every open gate is cut
and its reservation removed; reservations 60 to D/2 frames behind the position leave, but for the one that stays OPEN; each
gate then names the covering reservation furthest behind, and every change is announced. -/
def Obligations.BoundaryCutsExpiresAndEvaluatesGates : Prop :=
  ∀ (c : Instr) (s t : State) (cut : Bool), RefInv s → TrackInv s → boundary c s → exec c s = .next t →
    isRecorder s.straps.role = true → s.station.state = .active →
    cut = (rolling s.ref.transport && !rolling t.ref.transport) →
      (cut = false → t.hasFlag .gateCut = s.hasFlag .gateCut) ∧
      ∀ (i : Nat) (x y : Track) (announced : GateEvent → Reservation → Prop), s.tracks[i]? = some x →
        t.tracks[i]? = some y →
        (∀ ev r, announced ev r = given t 0#4 (.gate
          { track := globalTrack s.straps.role i, event := ev, claimant := r.claimant.zeroExtend 8, claimNo := r.claimNo
            room := r.room, position := BitVec.ofNat 24 t.ref.position })) →
        y.table = x.table.filter (fun r =>
          if namedBy x r then !cut
          else !(lockHolds t.ref.lock && decide (60 ≤ fwd s.day r.f2 t.ref.position ∧
            fwd s.day r.f2 t.ref.position ≤ s.day / 2))) ∧
        (∀ r, y.named = some r → rolling t.ref.transport = true ∧ r ∈ y.table ∧
          covers s.day r.f1 r.f2 t.ref.position = true ∧
          ∀ o ∈ y.table, covers s.day o.f1 o.f2 t.ref.position = true →
            fwd s.day o.f1 t.ref.position ≤ fwd s.day r.f1 t.ref.position) ∧
        (y.named = none → rolling t.ref.transport = false ∨
          ∀ o ∈ y.table, covers s.day o.f1 o.f2 t.ref.position = false) ∧
        (∀ a, x.named = some a → cut = true → t.hasFlag .gateCut = true ∧
          announced (.cut (if t.ref.transport = .noRef then .refLost else .transport)) a) ∧
        (∀ a, x.named = some a → y.named = none → cut = false → announced (.closed .ended) a) ∧
        (∀ b, x.named = none → y.named = some b → announced .opened b) ∧
        (∀ a b, x.named = some a → y.named = some b →
          (a.claimant ≠ b.claimant → announced (.closed .ended) a ∧ announced .opened b) ∧
            (a.claimant = b.claimant → a.claimNo ≠ b.claimNo → announced .opened b))

/-- RELEASE at a recorder (R135, R137): the matching reservation leaves silently, or the gate closes with RELEASE or is
handed over. -/
def Obligations.ReleaseRemovesAndHandsOver : Prop :=
  ∀ (h : FrameHead) (m : ReleaseMsg) (s : State), handed h (.release m) s → isRecorder s.straps.role = true →
    TrackInv s →
    (ownTrack s.straps.role m.track = none → exec (.release h m) s = .next (judged s)) ∧
    (∀ (i : Nat) (x : Track), ownTrack s.straps.role m.track = some i → s.tracks[i]? = some x →
      ∃ table, table = x.table.filter (fun r => !(r.claimant == h.source && r.claimNo == m.claimNo)) ∧
        (table = x.table → exec (.release h m) s = .next (judged s)) ∧
        (x.named.all (fun r => !(r.claimant == h.source && r.claimNo == m.claimNo)) = true →
          exec (.release h m) s = .next { judged s with tracks := s.tracks.set i { x with table := table } }) ∧
        (∀ r, x.named = some r → r.claimant = h.source → r.claimNo = m.claimNo →
          (coveringReservation s.day s.ref.position table = none →
            exec (.release h m) s =
              .next (State.give 0#4
                (.gate
                  { track := globalTrack s.straps.role i, event := .closed .release,
                    claimant := h.source.zeroExtend 8, claimNo := m.claimNo, room := r.room,
                    position := BitVec.ofNat 24 s.ref.position })
                { judged s with tracks := s.tracks.set i { named := none, table := table } })) ∧
          (∀ b, coveringReservation s.day s.ref.position table = some b → b.claimant = h.source →
            exec (.release h m) s =
              .next (State.give 0#4
                (.gate
                  { track := globalTrack s.straps.role i, event := .opened, claimant := h.source.zeroExtend 8,
                    claimNo := b.claimNo, room := b.room, position := BitVec.ofNat 24 s.ref.position })
                { judged s with tracks := s.tracks.set i { named := some b, table := table } }))))

/-- ABORT (R65, R66, R124, R138): a booth of the room stands its entries down and gives back every open claim with RELEASE
ABORT, which stand in the queue in entry order (notes/assumptions/29.md); a booth of another room does nothing; and a recorder removes the room's
reservations without GATE_CUT, where a gate that loses its named reservation closes with ABORT or is handed over. The takes
in flight are those of TakesInFlightAreKeptOrUnwound. -/
def Obligations.AbortEmptiesTheRoom : Prop :=
  ∀ (h : FrameHead) (room : AbortRoom) (s : State), handed h (.abort room) s →
    (s.straps.role = .booth → s.abortMine room = false → exec (.abort h room) s = .next (judged s)) ∧
    (s.straps.role = .booth → s.abortMine room = true → LookInv s → ∃ t,
      exec (.abort h room) s = .next t ∧ keptByTable s t t.cues { s.takes with log := t.takes.log, journal := t.takes.journal } ∧
        t.cues.map imageOf = s.cues.map imageOf ∧ flagsKept s t ∧
        (∀ e ∈ t.entries, s.inLookahead e.slot = true →
          e.stoodDown = true ∧ e.claim ≠ .pending ∧ e.claim ≠ .granted) ∧
        (∀ b ∈ t.out.beeps, s.inLookahead b.slot = false) ∧ t.out.gateView = s.out.gateView ∧
        t.out.light = t.lightLevel ∧ (LineInv s → sentInOrder s t (releasesOf .abort s.entries s))) ∧
    (isRecorder s.straps.role = true → TrackInv s → ∃ t,
      exec (.abort h room) s = .next t ∧
        t = { judged s with
          tracks := t.tracks
          line := { (judged s).line with queue := t.line.queue }
          port := { s.port with sticky := t.port.sticky } } ∧
        flagsKept s t ∧ (t.hasFlag .gateCut = true → s.hasFlag .gateCut = true) ∧
        t.tracks.map Track.table = s.tracks.map (fun x => x.table.filter (fun r => !(abortNames room r.room))) ∧
        ∀ (i : Nat) (x y : Track), s.tracks[i]? = some x → t.tracks[i]? = some y →
          (x.named.all (fun a => !(abortNames room a.room)) = true → y.named = x.named) ∧
          (∀ a, x.named = some a → abortNames room a.room = true →
            y.named = coveringReservation s.day s.ref.position y.table ∧
            (y.named = none → given t 0#4 (gateOf s i (.closed .abort) a)) ∧
            (∀ b, y.named = some b →
              (a.claimant ≠ b.claimant →
                given t 0#4 (gateOf s i (.closed .ended) a) ∧ given t 0#4 (gateOf s i .opened b)) ∧
              (a.claimant = b.claimant → a.claimNo ≠ b.claimNo → given t 0#4 (gateOf s i .opened b)))))

/-- ANSWER at a booth (R118 to R123): a grant taken, late or for a claim given back, a denial, and an unknown claim. -/
def Obligations.AnswerSettlesTheMatchedClaim : Prop :=
  ∀ (h : FrameHead) (m : AnswerMsg) (s : State), handed h (.answer m) s → s.straps.role = .booth →
    h.broadcast = false →
    (matchedEntry m.track m.claimNo s = none →
      exec (.answer h m) s =
        .next (if m.decision = .grant then
          State.give 0#4 (.release { track := m.track, claimNo := m.claimNo, reason := .evict }) (judged s)
        else judged s)) ∧
    (∀ e, matchedEntry m.track m.claimNo s = some e →
      (e.claim = .granted → exec (.answer h m) s = .next (judged s)) ∧
      (e.claim = .released → m.decision = .grant →
        exec (.answer h m) s =
          .next (State.give 0#4 (.release { track := m.track, claimNo := m.claimNo, reason := .evict }) (judged s))) ∧
      (e.claim = .released → m.decision ≠ .grant → exec (.answer h m) s = .next (judged s)) ∧
      (e.claim = .pending ∨ e.claim = .denied ∨ e.claim = .noRecorder → m.decision = .grant →
        (e.isCrossed .punchIn || e.take == .late) = false →
        exec (.answer h m) s =
          .next { judged s with entries := s.entries.map (fun x =>
            if x.slot = e.slot then
              { x with claim := .granted, denyReason := none, answerTimer := 0, resent := false }
            else x) }) ∧
      (e.claim = .pending ∨ e.claim = .denied ∨ e.claim = .noRecorder → m.decision = .grant →
        (e.isCrossed .punchIn || e.take == .late) = true → ∃ t,
        exec (.answer h m) s = .next t ∧ flagsKept s t ∧
          t = { judged s with
            entries := s.entries.map (fun x =>
              if x.slot = e.slot then
                { x with claim := .released, denyReason := none, answerTimer := 0, resent := false }
              else x)
            line := { (judged s).line with queue := t.line.queue }
            port := { s.port with sticky := t.port.sticky } } ∧
          (s.line.queue.length < 8 →
            newMessage (.fixed 0#4 (.release { track := m.track, claimNo := m.claimNo, reason := .late })) .internal ∈
              t.line.queue)) ∧
      (e.claim = .pending ∨ e.claim = .denied ∨ e.claim = .noRecorder → ∀ r, denyReasonOf m.decision = some r →
        exec (.answer h m) s =
          .next { judged s with entries := s.entries.map (fun x =>
            if x.slot = e.slot then
              { x with claim := .denied, denyReason := some r, answerTimer := 0, resent := false }
            else x) }))

/-- GATE at a booth (R85, R87, R88, R98): the room gate view, the take evidence of the entry whose claim it names, and the
light. -/
def Obligations.GateMovesTheViewAndTheEvidence : Prop :=
  ∀ (h : FrameHead) (m : GateMsg) (s : State), handed h (.gate m) s → s.straps.role = .booth → ∃ t,
    exec (.gate h m) s = .next t ∧
      t = { judged s with
        entries := t.entries
        out := { s.out with
          gateView := t.out.gateView, drawn := t.out.drawn, resumed := t.out.resumed, flash := t.out.flash
          beep := t.beepLevel, light := t.lightLevel } } ∧
      (m.track.toNat < 16 → m.event = .opened → m.room = s.straps.room.zeroExtend 8 →
        t.out.gateView =
            (if (h.source, m.track) ∈ s.out.gateView ∨ 16 ≤ s.out.gateView.length then s.out.gateView
            else s.out.gateView ++ [(h.source, m.track)]) ∧ t.out.light = .quiet) ∧
      (m.track.toNat < 16 → (m.event ≠ .opened ∨ m.room ≠ s.straps.room.zeroExtend 8) →
        t.out.gateView = s.out.gateView.filter (fun pair => pair != (h.source, m.track))) ∧
      (m.claimant ≠ s.straps.address.zeroExtend 8 ∨ matchedEntry m.track m.claimNo s = none → t.entries = s.entries) ∧
      (∀ e, m.claimant = s.straps.address.zeroExtend 8 → matchedEntry m.track m.claimNo s = some e →
        t.entries = s.entries.map (fun x =>
          if x.slot = e.slot then
            match m.event with
            | .opened => { x with gateSeenOpen := true }
            | .cut _ => { x with gateCut := true }
            | .closed _ => x
          else x))

/-! ### The cue table -/

/-- LOAD at a booth (R29, R31 to R34, R52): the first refusal condition that holds is answered and nothing else changes;
otherwise the slot is stored as clamped, the REPLY is ACCEPTED or CLAMPED with the fields clamped, the lookahead recomputes,
and no other slot changes. -/
def Obligations.LoadIsRefusedInOrderOrStored : Prop :=
  ∀ (h : FrameHead) (m : LoadMsg) (s : State), handed h (.load m) s → s.straps.role = .booth → h.broadcast = false →
    ∃ refusal : Option ReplyResult,
      (refusal =
        if 127 < m.slot.toNat then some .badSlot
        else
          match countOfLabel s.straps.profile m.inLabel, countOfLabel s.straps.profile m.outLabel with
          | some c, some e =>
            if fwd s.day c e < 1 ∨ 9000 < fwd s.day c e then some .badRange
            else if 16 ≤ m.track.toNat ∧ m.track.toNat ≤ 254 then some .badTrack
            else if s.inLookahead m.slot.toNat then some .busy
            else none
          | _, _ => some .badTime) ∧
      (∀ r, refusal = some r →
        exec (.load h m) s =
          .next (State.give h.source
            (.reply { kind := .load, slot := m.slot, result := r, clamped := none, digest := none }) (judged s))) ∧
      (refusal = none → ∃ (t : State) (c : Cue) (clamped : Byte),
        exec (.load h m) s = .next t ∧ keptByTable s t (s.cues.set m.slot.toNat (some c)) s.takes ∧ flagsKept s t ∧
          t = State.settle (recompute (State.give h.source
            (.reply
              { kind := .load, slot := m.slot, result := if clamped = 0#8 then .accepted else .clamped,
                clamped := if clamped = 0#8 then none else some clamped, digest := none })
            { judged s with cues := s.cues.set m.slot.toNat (some c) })) ∧
          clamped.getLsbD 0 = decide ((1 ≤ m.streamer.toNat ∧ m.streamer.toNat ≤ 7) ∨ 241 ≤ m.streamer.toNat) ∧
          clamped.getLsbD 1 = decide (4 ≤ m.beepCount.toNat) ∧
          clamped.getLsbD 2 = decide (m.beepDur.toNat = 0 ∨ 5 ≤ m.beepDur.toNat) ∧
          clamped.getLsbD 3 = decide (61 ≤ m.pre.toNat) ∧ clamped.getLsbD 4 = decide (61 ≤ m.post.toNat) ∧
          clamped.getLsbD 5 = decide (15 ≤ m.textLen.toNat) ∧ clamped.getLsbD 6 = false ∧ clamped.getLsbD 7 = false ∧
          c.selected = true ∧ c.cueId = m.cueId ∧ c.inLabel = m.inLabel ∧ c.outLabel = m.outLabel ∧
          countOfLabel s.straps.profile m.inLabel = some c.cueIn ∧
          countOfLabel s.straps.profile m.outLabel = some c.cueOut ∧
          c.track = (if m.track = 255#8 then none else some m.track) ∧
          c.streamer.toNat =
            (if m.streamer.toNat = 0 then 0 else min (max m.streamer.toNat 8) 240) ∧
          c.beepCount.toNat = min m.beepCount.toNat 3 ∧ c.beepDur.toNat = min (max m.beepDur.toNat 1) 4 ∧
          c.pre.toNat = min m.pre.toNat 60 ∧ c.post.toNat = min m.post.toNat 60 ∧
          c.text = m.text.take (min m.textLen.toNat 14) ∧
          (∀ old, s.cueAt m.slot.toNat = some old → old.cueId = m.cueId →
            c.takeCount = old.takeCount ∧ c.lastResult = old.lastResult ∧ c.circled = old.circled) ∧
          ((∀ old, s.cueAt m.slot.toNat = some old → old.cueId ≠ m.cueId) →
            c.takeCount = 0 ∧ c.lastResult = none ∧ c.circled = 0) ∧
          t.out.light = t.lightLevel)

/-- CLEAR, SELECT on and SELECT off at a booth (R25, R29, R36 to R39, R52, R67): BAD_SLOT, BUSY, and the changed range with
its REPLY of ACCEPTED, after which the lookahead recomputes; after a SELECT off no entry of the range is left, and the
entries are removed before the REPLY is given, a take in flight kept ABORTED or undone first, and every open claim given back
with RELEASE EVICT, in entry order (R103 to R106, R124). -/
def Obligations.ClearAndSelectChangeTheirRange : Prop :=
  ∀ (h : FrameHead) (m : RangeMsg) (s : State), s.straps.role = .booth → h.broadcast = false → s.cues.length = 128 →
    (handed h (.clear m) s →
      (min m.last.toNat 127 < m.first.toNat →
        exec (.clear h m) s = .next (State.give h.source (.reply (plainReply .clear m.first .badSlot)) (judged s))) ∧
      (m.first.toNat ≤ min m.last.toNat 127 →
        s.entries.any (fun e => decide (m.first.toNat ≤ e.slot ∧ e.slot ≤ min m.last.toNat 127)) = true →
        exec (.clear h m) s = .next (State.give h.source (.reply (plainReply .clear m.first .busy)) (judged s))) ∧
      (m.first.toNat ≤ min m.last.toNat 127 →
        s.entries.any (fun e => decide (m.first.toNat ≤ e.slot ∧ e.slot ≤ min m.last.toNat 127)) = false → ∃ t,
        exec (.clear h m) s = .next t ∧ keptByTable s t t.cues s.takes ∧ flagsKept s t ∧
          t = State.settle (recompute (State.give h.source (.reply (plainReply .clear m.first .accepted))
            { judged s with cues := t.cues })) ∧
          ∀ slot < 128, t.cueAt slot =
            if m.first.toNat ≤ slot ∧ slot ≤ min m.last.toNat 127 then none else s.cueAt slot)) ∧
    (handed h (.select m true) s →
      (min m.last.toNat 127 < m.first.toNat →
        exec (.selectOn h m) s = .next (State.give h.source (.reply (plainReply .select m.first .badSlot)) (judged s))) ∧
      (m.first.toNat ≤ min m.last.toNat 127 → ∃ t,
        exec (.selectOn h m) s = .next t ∧ keptByTable s t t.cues s.takes ∧ flagsKept s t ∧
          t = State.settle (recompute (State.give h.source (.reply (plainReply .select m.first .accepted))
            { judged s with cues := t.cues })) ∧
          ∀ slot < 128, t.cueAt slot =
            if m.first.toNat ≤ slot ∧ slot ≤ min m.last.toNat 127 then
              (s.cueAt slot).map (fun c => { c with selected := true })
            else s.cueAt slot)) ∧
    (handed h (.select m false) s →
      (min m.last.toNat 127 < m.first.toNat →
        exec (.selectOff h m) s = .next (State.give h.source (.reply (plainReply .select m.first .badSlot)) (judged s))) ∧
      (m.first.toNat ≤ min m.last.toNat 127 → ∃ t u,
        exec (.selectOff h m) s = .next t ∧
          keptByTable s t t.cues { s.takes with log := t.takes.log, journal := t.takes.journal } ∧ flagsKept s t ∧
          t = State.settle
            (recompute (State.give h.source (.reply (plainReply .select m.first .accepted)) u)) ∧
          keptByTable s u t.cues { s.takes with log := t.takes.log, journal := t.takes.journal } ∧ flagsKept s u ∧
          (∀ e ∈ u.entries, e ∈ s.entries) ∧
          (∀ e ∈ s.entries, ¬ (m.first.toNat ≤ e.slot ∧ e.slot ≤ min m.last.toNat 127) → e ∈ u.entries) ∧
          (∀ e ∈ u.entries, ¬ (m.first.toNat ≤ e.slot ∧ e.slot ≤ min m.last.toNat 127)) ∧
          t.cues.map imageOf = s.cues.map imageOf ∧
          (∀ slot, (t.cueAt slot).map Cue.selected =
            if m.first.toNat ≤ slot ∧ slot ≤ min m.last.toNat 127 then (s.cueAt slot).map (fun _ => false)
            else (s.cueAt slot).map Cue.selected) ∧
          (∀ slot, ¬ (m.first.toNat ≤ slot ∧ slot ≤ min m.last.toNat 127) → t.cueAt slot = s.cueAt slot) ∧
          (∀ slot, m.first.toNat ≤ slot → slot ≤ min m.last.toNat 127 →
            s.running.any (fun e => e.slot == slot) = false →
              t.cueAt slot = (s.cueAt slot).map (fun c => { c with selected := false })) ∧
          (∀ e ∈ t.entries, ¬ (m.first.toNat ≤ e.slot ∧ e.slot ≤ min m.last.toNat 127)) ∧
          (LookInv s → LineInv s → sentInOrder s u (releasesOf .evict
            (s.entries.filter (fun e => decide (m.first.toNat ≤ e.slot ∧ e.slot ≤ min m.last.toNat 127))) s)) ∧
          (CueInv s → LookInv s → TakeInv s → FlightInv s →
            t.takes.journal = s.takes.journal.filter (fun j =>
              !decide (m.first.toNat ≤ j.slot ∧ j.slot ≤ min m.last.toNat 127)) ∧
            (∀ r ∈ s.takes.log, r.result ≠ .inFlight → r ∈ t.takes.log) ∧
            ∀ e ∈ s.running, m.first.toNat ≤ e.slot → e.slot ≤ min m.last.toNat 127 →
              ∀ (j : JournalRecord) (cue : Cue), e.serial = some j.serial → j ∈ s.takes.journal →
                s.cueAt e.slot = some cue →
                  takeStopped s t e j { cue with selected := false } ∧ abortNoted s u e j)))

/-- DIGEST and MARK at a booth (R40 to R42, R108, R109): the digest of the images of the used range, and the circled flag
of the newest matching record with the slot's circled take. -/
def Obligations.DigestAndMarkAreAnswered : Prop :=
  ∀ (h : FrameHead) (s : State), s.straps.role = .booth → h.broadcast = false →
    (∀ m : DigestMsg, handed h (.digest m) s →
      exec (.digest h m) s =
        .next (State.give h.source
          (.reply
            (if 127 < m.first.toNat then plainReply .digest m.first .badSlot
            else if m.count = 0#8 then plainReply .digest m.first .badRange
            else
              { kind := .digest, slot := m.first, result := .accepted, clamped := none,
                digest := some
                  (crc16 (((s.cues.drop m.first.toNat).take (min m.count.toNat (128 - m.first.toNat))).flatMap imageOf),
                    byte (min m.count.toNat (128 - m.first.toNat))) }))
          (judged s))) ∧
    (∀ m : MarkMsg, handed h (.mark m) s →
      ((s.takes.log.filter (fun r => r.slot == m.slot.toNat && r.take == m.take.toNat)) = [] →
        exec (.mark h m) s = .next (State.give h.source (.reply (plainReply .mark m.slot .notFound)) (judged s))) ∧
      (∀ r, (s.takes.log.filter (fun r => r.slot == m.slot.toNat && r.take == m.take.toNat)).getLast? = some r →
        (r.result = .inFlight →
          exec (.mark h m) s = .next (State.give h.source (.reply (plainReply .mark m.slot .inFlight)) (judged s))) ∧
        (r.result ≠ .inFlight → ∃ t,
          exec (.mark h m) s = .next (State.give h.source (.reply (plainReply .mark m.slot .accepted)) t) ∧
            t = { judged s with cues := t.cues, takes := { s.takes with log := s.takes.log.map (fun x =>
              if x.serial == r.serial then { x with circled := m.circle } else x) } } ∧
            (∀ slot, slot ≠ m.slot.toNat → t.cueAt slot = s.cueAt slot) ∧
            (s.cueAt m.slot.toNat = none → t.cues = s.cues) ∧
            (∀ c, s.cueAt m.slot.toNat = some c →
              t.cueAt m.slot.toNat = some
                { c with circled :=
                  if c.cueId = r.cueId then
                    (if m.circle then m.take.toNat else if c.circled = m.take.toNat then 0 else c.circled)
                  else c.circled }))))

/-! ### Transmission -/

/-- ATTEMPT_START (R145, R146, R154, R172, R192): the quiet bit times are counted in every station state, and the head's attempt
begins where the station is ACTIVE and the line has been idle for its gap; where it does not begin, the line may turn
busy, which loses the count; while a frame is sent or taken no bit time is quiet, and nothing changes. That a command brings
the time on the line is notes/assumptions/4.md, and the command without an attempt notes/assumptions/6.md. -/
def Obligations.AttemptStartsAfterItsGap : Prop :=
  ∀ (quiet : Nat) (busy : Bool) (s : State),
    (s.line.attempt ≠ none ∨ (∃ h, s.line.receiver = .taking h) →
      exec (.attemptStart { quiet := quiet, busy := busy }) s = .next s) ∧
    (s.line.attempt = none → (∀ h, s.line.receiver ≠ .taking h) → ∃ (idle : Option Nat) (receiver : Receiver),
      (∀ k, s.line.idle = some k → idle = some (k + quiet)) ∧
      (s.line.idle = none → idle = if quiet = 0 then none else some quiet) ∧
      receiver = (if quiet = 0 then s.line.receiver else .awaiting) ∧
      (∀ (m : TxMsg) (rest : List TxMsg) (k : Nat), s.line.queue = m :: rest → s.station.state = .active →
        idle = some k → 20 * (m.cls + 1) + s.straps.address.toNat + m.extra ≤ k → ∃ (dest : Addr) (msg : Message),
        exec (.attemptStart { quiet := quiet, busy := busy }) s =
            .next { s with line := { s.line with
              queue := { m with extra := 0, underAttempt := true } :: rest
              attempt := some (buildFrame s.straps.address dest msg)
              receiver := .incoming (some (headerFor s.straps.address dest msg)), idle := none } } ∧
          (m.content = .fixed dest msg ∨
            (m.content = .beacon ∧ msg = .beacon
              { role := s.straps.role, room := s.straps.room.zeroExtend 8, state := .active, lock := s.ref.lock,
                transport := s.ref.transport, position := BitVec.ofNat 24 s.ref.position })) ∧
          (buildFrame s.straps.address dest msg).length = 7 + (payloadOf msg).length ∧
          (buildFrame s.straps.address dest msg).head? = some 0x5A#8) ∧
      (s.station.state ≠ .active ∨ idle = none ∨
        (∀ k, idle = some k → (s.line.queue.head?.all fun m =>
          decide (k < 20 * (m.cls + 1) + s.straps.address.toNat + m.extra)) = true) →
        exec (.attemptStart { quiet := quiet, busy := busy }) s =
          .next { s with line :=
            if busy = true ∧ receiver = .awaiting then { s.line with idle := none, receiver := .incoming none }
            else { s.line with idle := idle, receiver := receiver } }))

/-- COLLISION and FRAME_SENT (R153, R155, R156, R158, R162, R171, R173): the message backs off by r × 64 bit times or is dropped
at its sixth failure, and the receiver stays with the frame on the line; sent, it leaves the queue, a BEACON with its repeat mark stays and sets the timer, and an ABORT of the
own panel acts as one received; without an attempt nothing changes (notes/assumptions/6.md, 26.md). -/
def Obligations.AttemptsEndInACollisionOrSent : Prop :=
  (∀ s : State,
     (∀ (m : TxMsg) (frame : List Byte), s.line.attempt = some frame →
       s.line.queue.find? (fun x => x.underAttempt) = some m →
       (m.attempts < 5 →
         exec .collision s =
           .next { s with
             station := { s.station with prng := prngStep s.station.prng }
             line := { s.line with
               attempt := none, collisions := min (s.line.collisions + 1) 65535
               queue := s.line.queue.map (fun x =>
                 if x.underAttempt then
                   { x with
                     attempts := x.attempts + 1, underAttempt := false
                     extra := (prngStep s.station.prng).toNat % 2 ^ (min (m.attempts + 1) 4) * 64 }
                 else x) } }) ∧
       (5 ≤ m.attempts →
         exec .collision s =
           .next { s with
             line := { s.line with
               attempt := none, collisions := min (s.line.collisions + 1) 65535
               sendFail := min (s.line.sendFail + 1) 65535
               queue := s.line.queue.filter (fun x => !x.underAttempt) }
             port := { s.port with sticky := withFlag .sendFail s.port.sticky } })) ∧
     (s.line.attempt = none → exec .collision s = .next s)) ∧
  (∀ s : State,
     (∀ (m : TxMsg) (frame : List Byte), s.line.attempt = some frame →
       s.line.queue.find? (fun x => x.underAttempt) = some m →
       (m.content = .beacon →
         exec .frameSent s =
           .next { s with
             station := { s.station with
               prng := prngStep s.station.prng, beaconTimer := 100 + (prngStep s.station.prng).toNat % 16 }
             line := { s.line with
               attempt := none, receiver := .awaiting, idle := none
               queue :=
                 if m.repeatMark then
                   s.line.queue.map (fun x =>
                     if x.underAttempt then
                       { x with attempts := 0, extra := 0, repeatMark := false, underAttempt := false }
                     else x)
                 else s.line.queue.filter (fun x => !x.underAttempt) } }) ∧
       (∀ (dest : Addr) (msg : Message), m.content = .fixed dest msg → ∃ u,
         u = { s with line := { s.line with
           attempt := none, receiver := .awaiting, idle := none, queue := s.line.queue.filter (fun x => !x.underAttempt) } } ∧
         (m.origin = .internal ∨ (∀ room, msg ≠ .abort room) → exec .frameSent s = .next u) ∧
         (∀ (room : AbortRoom) (h : FrameHead), m.origin = .panel → msg = .abort room → s.station.state = .active →
           h.source ≠ s.straps.address →
           exec .frameSent s =
             exec (.abort h room) { u with line := { u.line with receiver := .taking (headerOfFrame h (.abort room)) } }))) ∧
     (s.line.attempt = none → exec .frameSent s = .next s))

/-! ### Takes -/

/-- A boundary that takes the punch-in or punch-out mark of one entry (R94 to R97, R99 to R102, R123): no take, LIMIT, SKIPPED or a
take with its serial, log record, journal record and slot fields; and at the punch-out the take's result, end frame,
TAKE_NOTE and TAKE_END. A journal record whose displaced record bears the serial issued puts none back
(notes/assumptions/28.md). -/
def Obligations.TakeStartsAndEndsAtItsMarks : Prop :=
  ∀ (c : Instr) (s t : State) (d : Nat) (e : Entry) (cue : Cue) (before : TakeUnit),
    RefInv s → CueInv s → LookInv s → TakeInv s → FlightInv s → takesMarks c s t d → e ∈ s.entries →
    s.cueAt e.slot = some cue → before = offSpeedTakes t.ref.transport s.takes →
    (∀ x ∈ s.entries, x.slot ≠ e.slot → markHit s d x .punchIn = false ∧ markHit s d x .punchOut = false) →
      (markHit s d e .punchOut = false →
        (markHit s d e .punchIn = false ∨ cue.track = none ∨ e.stoodDown = true ∨ e.take ≠ .idle →
          t.takes = before ∧ t.cues = s.cues) ∧
        (markHit s d e .punchIn = true → cue.track ≠ none → e.stoodDown = false → e.take = .idle →
          (99 ≤ cue.takeCount ∨ 2 ≤ s.running.length →
            t.takes = before ∧ t.cues = s.cues ∧
              (∀ x, t.entryOf e.slot = some x → x.serial = e.serial ∧
                x.take = (if 99 ≤ cue.takeCount then .limit else .skipped) ∧ (e.claim ≠ .granted → x.claim = e.claim)) ∧
              (e.claim = .granted → ∀ track n, cue.track = some track → e.claimNo = some n →
                (∀ x, t.entryOf e.slot = some x → x.claim = .released) ∧
                  given t 0#4 (.release { track := track, claimNo := n, reason := .limit }))) ∧
          (cue.takeCount < 99 → s.running.length < 2 → ∃ (n : Word16) (kept : List LogRecord) (displaced : Option LogRecord),
            n = s.takes.serial + 1#16 ∧
              (if before.log.any (fun r => r.serial == n) then
                kept = before.log.filter (fun r => r.serial != n) ∧ displaced = none
              else if before.log.length < 32 then kept = before.log ∧ displaced = none
              else ∃ r older newer, before.log = older ++ r :: newer ∧ (∀ x ∈ older, x.result = .inFlight) ∧
                r.result ≠ .inFlight ∧ kept = older ++ newer ∧ displaced = some r) ∧
              t.takes = { before with
                serial := n
                log := kept ++
                  [{ serial := n, slot := e.slot, cueId := cue.cueId, take := cue.takeCount + 1, result := .inFlight,
                     offSpeed := decide (t.ref.transport = .vari), start := e.marks.punchIn, stop := none
                     circled := false }]
                journal := before.journal.map (fun j =>
                    if j.displaced.any (fun r => r.serial == n) then { j with displaced := none } else j) ++
                  [{ serial := n, slot := e.slot, takeCount := cue.takeCount, lastResult := cue.lastResult
                     displaced := displaced }] } ∧
              t.cues = s.cues.set e.slot
                (some { cue with takeCount := cue.takeCount + 1, lastResult := some .inFlight }) ∧
              ∃ x, t.entryOf e.slot = some x ∧ x.take = .running ∧ x.serial = some n ∧ x.claim = e.claim ∧
                x.gateSeenOpen = e.gateSeenOpen ∧ x.gateCut = e.gateCut))) ∧
      (markHit s d e .punchIn = false → markHit s d e .punchOut = true →
        (e.take ≠ .running → t.takes = before ∧ t.cues = s.cues) ∧
        (∀ n result, e.take = .running → e.serial = some n →
          result = (if e.claim = .released then .notRecorded
            else if e.gateCut then .cut else if e.gateSeenOpen then .recorded else .notRecorded) →
          t.takes = { before with
            log := before.log.map (fun r =>
              if r.serial = n then { r with result := result, stop := some e.marks.punchOut } else r)
            journal := before.journal.filter (fun j => j.serial != n) } ∧
          t.cues = s.cues.set e.slot (some { cue with lastResult := some result }) ∧ t.hasFlag .takeEnd = true ∧
          ∀ r ∈ before.log, r.serial = n →
            given t 0#4 (.takeNote
              { slot := byte r.slot, cueId := r.cueId, take := byte r.take, serial := n, result := result
                offSpeed := r.offSpeed, start := BitVec.ofNat 24 r.start
                stop := BitVec.ofNat 24 e.marks.punchOut })))

/-- The takes in flight at a transport that leaves PLAY or VARI, at an ABORT of the room, at an ENGINE reset and at a clash
(R103 to R106, R123, R136): each is kept ABORTED after its cue-in mark with its TAKE_NOTE and TAKE_END, and undone before it, its
displaced record and its slot's fields back; every other record and slot is as it was. -/
def Obligations.TakesInFlightAreKeptOrUnwound : Prop :=
  ∀ (c : Instr) (s t : State), RefInv s → CueInv s → LookInv s → TakeInv s → FlightInv s → s.activeBooth = true →
    exec c s = .next t →
    ((boundary c s ∧ rolling t.ref.transport = false) ∨
      (c = .lossByTime ∧ s.ref.quietTicks = 10 ∧ s.ref.lock ≠ .unlocked) ∨
      (∃ h room, c = .abort h room ∧ handed h (.abort room) s ∧ s.abortMine room = true) ∨ c = .resetEngine ∨
      (∃ header check h, c = .headerReceived header check ∧ s.line.receiver ≠ .abandoned none ∧
        s.line.receiver ≠ .incoming (some header) ∧ (judgeHeader header check).good = some h ∧
        headerSource h = s.straps.address)) →
      t.running = [] ∧ t.takes.journal = [] ∧ t.takes.serial = s.takes.serial ∧ t.takes.deskLog = s.takes.deskLog ∧
      (∀ e ∈ s.running, ∀ (j : JournalRecord) (cue : Cue), e.serial = some j.serial → j ∈ s.takes.journal →
        s.cueAt e.slot = some cue →
          takeStopped s t e j cue ∧
          ((∀ header check, c ≠ .headerReceived header check) → abortNoted s t e j) ∧
          (e.claim = .pending ∨ e.claim = .granted → (∀ header check, c ≠ .headerReceived header check) →
            ∀ track no, cue.track = some track → e.claimNo = some no →
              given t 0#4 (.release
                { track := track, claimNo := no, reason := if c = .resetEngine then .reset else .abort }))) ∧
      (∀ r ∈ s.takes.log, r.result ≠ .inFlight → r ∈ t.takes.log) ∧
      (∀ r ∈ t.takes.log, r ∈ s.takes.log ∨ (∃ j ∈ s.takes.journal, j.displaced = some r ∨ j.serial = r.serial)) ∧
      (∀ slot, s.running.any (fun e => e.slot == slot) = false → t.cueAt slot = s.cueAt slot) ∧
      (s.running.all (fun e => !e.isCrossed .cueIn) = true → t.hasFlag .takeEnd = s.hasFlag .takeEnd)

/-- R96, R105, R106: undoing a take puts log, journal and slots back as they were before its start, but for the record of a
reissued serial, which is not restored; a journal record whose displaced record bears that serial puts none back
(notes/assumptions/28.md). -/
def Obligations.UnwindUndoesTheTakeStart : Prop :=
  ∀ (slot : Nat) (c : Cue) (e : Entry) (s : State),
    s.cueAt slot = some c → s.takes.log.length ≤ 32 →
      (s.takes.log.filter (fun r => r.serial != s.takes.serial + 1#16)).Pairwise
        (fun a b => ageOf (s.takes.serial + 1#16) b.serial < ageOf (s.takes.serial + 1#16) a.serial) →
      (∀ j ∈ s.takes.journal, j.serial ≠ s.takes.serial + 1#16) → ∃ t,
        unwindTake slot (s.takes.serial + 1#16) (startTake slot c e s) = t ∧
          t.takes.log = s.takes.log.filter (fun r => r.serial != s.takes.serial + 1#16) ∧
          t.takes.journal = s.takes.journal.map (fun j =>
            if j.displaced.any (fun r => r.serial == s.takes.serial + 1#16) then { j with displaced := none } else j) ∧
          t.cues = s.cues ∧ t.takes.serial = s.takes.serial + 1#16 ∧ t.line = s.line ∧ t.port = s.port
end

