-- ==== Sys2Proof/Laws/State.lean ====
section
/-! SUPPORT. What each update of `State` does to each field, one lemma per field, so that no proof unfolds an update. -/

namespace Sys2Proof.Machine

/-! ### `State.setFlag` -/

@[simp] theorem State.setFlag_straps (f : Flag) (s : State) : (s.setFlag f).straps = s.straps := rfl
@[simp] theorem State.setFlag_ref (f : Flag) (s : State) : (s.setFlag f).ref = s.ref := rfl
@[simp] theorem State.setFlag_cues (f : Flag) (s : State) : (s.setFlag f).cues = s.cues := rfl
@[simp] theorem State.setFlag_entries (f : Flag) (s : State) : (s.setFlag f).entries = s.entries := rfl
@[simp] theorem State.setFlag_out (f : Flag) (s : State) : (s.setFlag f).out = s.out := rfl
@[simp] theorem State.setFlag_takes (f : Flag) (s : State) : (s.setFlag f).takes = s.takes := rfl
@[simp] theorem State.setFlag_claimCounter (f : Flag) (s : State) : (s.setFlag f).claimCounter = s.claimCounter := rfl
@[simp] theorem State.setFlag_tracks (f : Flag) (s : State) : (s.setFlag f).tracks = s.tracks := rfl
@[simp] theorem State.setFlag_line (f : Flag) (s : State) : (s.setFlag f).line = s.line := rfl
@[simp] theorem State.setFlag_station (f : Flag) (s : State) : (s.setFlag f).station = s.station := rfl
@[simp] theorem State.setFlag_port (f : Flag) (s : State) :
    (s.setFlag f).port = { s.port with sticky := withFlag f s.port.sticky } := rfl
@[simp] theorem State.setFlag_pending (f : Flag) (s : State) : (s.setFlag f).pending = s.pending := rfl

/-! ### `State.withQueue` -/

@[simp] theorem State.withQueue_straps (q : List TxMsg) (s : State) : (s.withQueue q).straps = s.straps := rfl
@[simp] theorem State.withQueue_ref (q : List TxMsg) (s : State) : (s.withQueue q).ref = s.ref := rfl
@[simp] theorem State.withQueue_cues (q : List TxMsg) (s : State) : (s.withQueue q).cues = s.cues := rfl
@[simp] theorem State.withQueue_entries (q : List TxMsg) (s : State) : (s.withQueue q).entries = s.entries := rfl
@[simp] theorem State.withQueue_out (q : List TxMsg) (s : State) : (s.withQueue q).out = s.out := rfl
@[simp] theorem State.withQueue_takes (q : List TxMsg) (s : State) : (s.withQueue q).takes = s.takes := rfl
@[simp] theorem State.withQueue_claimCounter (q : List TxMsg) (s : State) :
    (s.withQueue q).claimCounter = s.claimCounter := rfl
@[simp] theorem State.withQueue_tracks (q : List TxMsg) (s : State) : (s.withQueue q).tracks = s.tracks := rfl
@[simp] theorem State.withQueue_line (q : List TxMsg) (s : State) :
    (s.withQueue q).line = { s.line with queue := q } := rfl
@[simp] theorem State.withQueue_station (q : List TxMsg) (s : State) : (s.withQueue q).station = s.station := rfl
@[simp] theorem State.withQueue_port (q : List TxMsg) (s : State) : (s.withQueue q).port = s.port := rfl
@[simp] theorem State.withQueue_pending (q : List TxMsg) (s : State) : (s.withQueue q).pending = s.pending := rfl

/-! ### `State.withReceiver` -/

@[simp] theorem State.withReceiver_straps (r : Receiver) (s : State) : (s.withReceiver r).straps = s.straps := rfl
@[simp] theorem State.withReceiver_ref (r : Receiver) (s : State) : (s.withReceiver r).ref = s.ref := rfl
@[simp] theorem State.withReceiver_cues (r : Receiver) (s : State) : (s.withReceiver r).cues = s.cues := rfl
@[simp] theorem State.withReceiver_entries (r : Receiver) (s : State) : (s.withReceiver r).entries = s.entries := rfl
@[simp] theorem State.withReceiver_out (r : Receiver) (s : State) : (s.withReceiver r).out = s.out := rfl
@[simp] theorem State.withReceiver_takes (r : Receiver) (s : State) : (s.withReceiver r).takes = s.takes := rfl
@[simp] theorem State.withReceiver_claimCounter (r : Receiver) (s : State) :
    (s.withReceiver r).claimCounter = s.claimCounter := rfl
@[simp] theorem State.withReceiver_tracks (r : Receiver) (s : State) : (s.withReceiver r).tracks = s.tracks := rfl
@[simp] theorem State.withReceiver_line (r : Receiver) (s : State) :
    (s.withReceiver r).line = { s.line with receiver := r, idle := none } := rfl
@[simp] theorem State.withReceiver_station (r : Receiver) (s : State) : (s.withReceiver r).station = s.station := rfl
@[simp] theorem State.withReceiver_port (r : Receiver) (s : State) : (s.withReceiver r).port = s.port := rfl
@[simp] theorem State.withReceiver_pending (r : Receiver) (s : State) : (s.withReceiver r).pending = s.pending := rfl

/-! ### `State.answerWith` -/

@[simp] theorem State.answerWith_straps (st : Status) (body : List Byte) (s : State) :
    (s.answerWith st body).straps = s.straps := rfl
@[simp] theorem State.answerWith_ref (st : Status) (body : List Byte) (s : State) :
    (s.answerWith st body).ref = s.ref := rfl
@[simp] theorem State.answerWith_cues (st : Status) (body : List Byte) (s : State) :
    (s.answerWith st body).cues = s.cues := rfl
@[simp] theorem State.answerWith_entries (st : Status) (body : List Byte) (s : State) :
    (s.answerWith st body).entries = s.entries := rfl
@[simp] theorem State.answerWith_out (st : Status) (body : List Byte) (s : State) :
    (s.answerWith st body).out = s.out := rfl
@[simp] theorem State.answerWith_takes (st : Status) (body : List Byte) (s : State) :
    (s.answerWith st body).takes = s.takes := rfl
@[simp] theorem State.answerWith_claimCounter (st : Status) (body : List Byte) (s : State) :
    (s.answerWith st body).claimCounter = s.claimCounter := rfl
@[simp] theorem State.answerWith_tracks (st : Status) (body : List Byte) (s : State) :
    (s.answerWith st body).tracks = s.tracks := rfl
@[simp] theorem State.answerWith_line (st : Status) (body : List Byte) (s : State) :
    (s.answerWith st body).line = s.line := rfl
@[simp] theorem State.answerWith_station (st : Status) (body : List Byte) (s : State) :
    (s.answerWith st body).station = s.station := rfl
@[simp] theorem State.answerWith_port (st : Status) (body : List Byte) (s : State) :
    (s.answerWith st body).port =
      { s.port with transaction := .answering, answer := some { status := st, body := body } } := rfl
@[simp] theorem State.answerWith_pending (st : Status) (body : List Byte) (s : State) :
    (s.answerWith st body).pending = s.pending := rfl

/-! ### `State.portIdle` -/

@[simp] theorem State.portIdle_straps (s : State) : (s.portIdle).straps = s.straps := rfl
@[simp] theorem State.portIdle_ref (s : State) : (s.portIdle).ref = s.ref := rfl
@[simp] theorem State.portIdle_cues (s : State) : (s.portIdle).cues = s.cues := rfl
@[simp] theorem State.portIdle_entries (s : State) : (s.portIdle).entries = s.entries := rfl
@[simp] theorem State.portIdle_out (s : State) : (s.portIdle).out = s.out := rfl
@[simp] theorem State.portIdle_takes (s : State) : (s.portIdle).takes = s.takes := rfl
@[simp] theorem State.portIdle_claimCounter (s : State) : (s.portIdle).claimCounter = s.claimCounter := rfl
@[simp] theorem State.portIdle_tracks (s : State) : (s.portIdle).tracks = s.tracks := rfl
@[simp] theorem State.portIdle_line (s : State) : (s.portIdle).line = s.line := rfl
@[simp] theorem State.portIdle_station (s : State) : (s.portIdle).station = s.station := rfl
@[simp] theorem State.portIdle_port (s : State) :
    (s.portIdle).port = { s.port with transaction := .idle, answer := none } := rfl
@[simp] theorem State.portIdle_pending (s : State) : (s.portIdle).pending = s.pending := rfl

/-! ### `State.stepPrng` -/

@[simp] theorem State.stepPrng_straps (s : State) : (s.stepPrng).straps = s.straps := rfl
@[simp] theorem State.stepPrng_ref (s : State) : (s.stepPrng).ref = s.ref := rfl
@[simp] theorem State.stepPrng_cues (s : State) : (s.stepPrng).cues = s.cues := rfl
@[simp] theorem State.stepPrng_entries (s : State) : (s.stepPrng).entries = s.entries := rfl
@[simp] theorem State.stepPrng_out (s : State) : (s.stepPrng).out = s.out := rfl
@[simp] theorem State.stepPrng_takes (s : State) : (s.stepPrng).takes = s.takes := rfl
@[simp] theorem State.stepPrng_claimCounter (s : State) : (s.stepPrng).claimCounter = s.claimCounter := rfl
@[simp] theorem State.stepPrng_tracks (s : State) : (s.stepPrng).tracks = s.tracks := rfl
@[simp] theorem State.stepPrng_line (s : State) : (s.stepPrng).line = s.line := rfl
@[simp] theorem State.stepPrng_station (s : State) :
    (s.stepPrng).station = { s.station with prng := prngStep s.station.prng } := rfl
@[simp] theorem State.stepPrng_port (s : State) : (s.stepPrng).port = s.port := rfl
@[simp] theorem State.stepPrng_pending (s : State) : (s.stepPrng).pending = s.pending := rfl

/-! ### `State.setCue` -/

@[simp] theorem State.setCue_straps (slot : Nat) (c : Option Cue) (s : State) :
    (s.setCue slot c).straps = s.straps := rfl
@[simp] theorem State.setCue_ref (slot : Nat) (c : Option Cue) (s : State) : (s.setCue slot c).ref = s.ref := rfl
@[simp] theorem State.setCue_cues (slot : Nat) (c : Option Cue) (s : State) :
    (s.setCue slot c).cues = s.cues.set slot c := rfl
@[simp] theorem State.setCue_entries (slot : Nat) (c : Option Cue) (s : State) :
    (s.setCue slot c).entries = s.entries := rfl
@[simp] theorem State.setCue_out (slot : Nat) (c : Option Cue) (s : State) : (s.setCue slot c).out = s.out := rfl
@[simp] theorem State.setCue_takes (slot : Nat) (c : Option Cue) (s : State) :
    (s.setCue slot c).takes = s.takes := rfl
@[simp] theorem State.setCue_claimCounter (slot : Nat) (c : Option Cue) (s : State) :
    (s.setCue slot c).claimCounter = s.claimCounter := rfl
@[simp] theorem State.setCue_tracks (slot : Nat) (c : Option Cue) (s : State) :
    (s.setCue slot c).tracks = s.tracks := rfl
@[simp] theorem State.setCue_line (slot : Nat) (c : Option Cue) (s : State) : (s.setCue slot c).line = s.line := rfl
@[simp] theorem State.setCue_station (slot : Nat) (c : Option Cue) (s : State) :
    (s.setCue slot c).station = s.station := rfl
@[simp] theorem State.setCue_port (slot : Nat) (c : Option Cue) (s : State) : (s.setCue slot c).port = s.port := rfl
@[simp] theorem State.setCue_pending (slot : Nat) (c : Option Cue) (s : State) :
    (s.setCue slot c).pending = s.pending := rfl

/-! ### `State.setTrack` -/

@[simp] theorem State.setTrack_straps (i : Nat) (t : Track) (s : State) : (s.setTrack i t).straps = s.straps := rfl
@[simp] theorem State.setTrack_ref (i : Nat) (t : Track) (s : State) : (s.setTrack i t).ref = s.ref := rfl
@[simp] theorem State.setTrack_cues (i : Nat) (t : Track) (s : State) : (s.setTrack i t).cues = s.cues := rfl
@[simp] theorem State.setTrack_entries (i : Nat) (t : Track) (s : State) : (s.setTrack i t).entries = s.entries := rfl
@[simp] theorem State.setTrack_out (i : Nat) (t : Track) (s : State) : (s.setTrack i t).out = s.out := rfl
@[simp] theorem State.setTrack_takes (i : Nat) (t : Track) (s : State) : (s.setTrack i t).takes = s.takes := rfl
@[simp] theorem State.setTrack_claimCounter (i : Nat) (t : Track) (s : State) :
    (s.setTrack i t).claimCounter = s.claimCounter := rfl
@[simp] theorem State.setTrack_tracks (i : Nat) (t : Track) (s : State) :
    (s.setTrack i t).tracks = s.tracks.set i t := rfl
@[simp] theorem State.setTrack_line (i : Nat) (t : Track) (s : State) : (s.setTrack i t).line = s.line := rfl
@[simp] theorem State.setTrack_station (i : Nat) (t : Track) (s : State) : (s.setTrack i t).station = s.station := rfl
@[simp] theorem State.setTrack_port (i : Nat) (t : Track) (s : State) : (s.setTrack i t).port = s.port := rfl
@[simp] theorem State.setTrack_pending (i : Nat) (t : Track) (s : State) : (s.setTrack i t).pending = s.pending := rfl

/-! ### `State.updateEntry` -/

@[simp] theorem State.updateEntry_straps (slot : Nat) (f : Entry → Entry) (s : State) :
    (s.updateEntry slot f).straps = s.straps := rfl
@[simp] theorem State.updateEntry_ref (slot : Nat) (f : Entry → Entry) (s : State) :
    (s.updateEntry slot f).ref = s.ref := rfl
@[simp] theorem State.updateEntry_cues (slot : Nat) (f : Entry → Entry) (s : State) :
    (s.updateEntry slot f).cues = s.cues := rfl
@[simp] theorem State.updateEntry_entries (slot : Nat) (f : Entry → Entry) (s : State) :
    (s.updateEntry slot f).entries = s.entries.map (fun e => if e.slot == slot then f e else e) := rfl
@[simp] theorem State.updateEntry_out (slot : Nat) (f : Entry → Entry) (s : State) :
    (s.updateEntry slot f).out = s.out := rfl
@[simp] theorem State.updateEntry_takes (slot : Nat) (f : Entry → Entry) (s : State) :
    (s.updateEntry slot f).takes = s.takes := rfl
@[simp] theorem State.updateEntry_claimCounter (slot : Nat) (f : Entry → Entry) (s : State) :
    (s.updateEntry slot f).claimCounter = s.claimCounter := rfl
@[simp] theorem State.updateEntry_tracks (slot : Nat) (f : Entry → Entry) (s : State) :
    (s.updateEntry slot f).tracks = s.tracks := rfl
@[simp] theorem State.updateEntry_line (slot : Nat) (f : Entry → Entry) (s : State) :
    (s.updateEntry slot f).line = s.line := rfl
@[simp] theorem State.updateEntry_station (slot : Nat) (f : Entry → Entry) (s : State) :
    (s.updateEntry slot f).station = s.station := rfl
@[simp] theorem State.updateEntry_port (slot : Nat) (f : Entry → Entry) (s : State) :
    (s.updateEntry slot f).port = s.port := rfl
@[simp] theorem State.updateEntry_pending (slot : Nat) (f : Entry → Entry) (s : State) :
    (s.updateEntry slot f).pending = s.pending := rfl

/-! ### `State.updatePeer` -/

@[simp] theorem State.updatePeer_straps (a : Addr) (f : Peer → Peer) (s : State) :
    (s.updatePeer a f).straps = s.straps := rfl
@[simp] theorem State.updatePeer_ref (a : Addr) (f : Peer → Peer) (s : State) : (s.updatePeer a f).ref = s.ref := rfl
@[simp] theorem State.updatePeer_cues (a : Addr) (f : Peer → Peer) (s : State) :
    (s.updatePeer a f).cues = s.cues := rfl
@[simp] theorem State.updatePeer_entries (a : Addr) (f : Peer → Peer) (s : State) :
    (s.updatePeer a f).entries = s.entries := rfl
@[simp] theorem State.updatePeer_out (a : Addr) (f : Peer → Peer) (s : State) : (s.updatePeer a f).out = s.out := rfl
@[simp] theorem State.updatePeer_takes (a : Addr) (f : Peer → Peer) (s : State) :
    (s.updatePeer a f).takes = s.takes := rfl
@[simp] theorem State.updatePeer_claimCounter (a : Addr) (f : Peer → Peer) (s : State) :
    (s.updatePeer a f).claimCounter = s.claimCounter := rfl
@[simp] theorem State.updatePeer_tracks (a : Addr) (f : Peer → Peer) (s : State) :
    (s.updatePeer a f).tracks = s.tracks := rfl
@[simp] theorem State.updatePeer_line (a : Addr) (f : Peer → Peer) (s : State) :
    (s.updatePeer a f).line = s.line := rfl
@[simp] theorem State.updatePeer_station (a : Addr) (f : Peer → Peer) (s : State) :
    (s.updatePeer a f).station = { s.station with peers := s.station.peers.modify a.toNat f } := rfl
@[simp] theorem State.updatePeer_port (a : Addr) (f : Peer → Peer) (s : State) :
    (s.updatePeer a f).port = s.port := rfl
@[simp] theorem State.updatePeer_pending (a : Addr) (f : Peer → Peer) (s : State) :
    (s.updatePeer a f).pending = s.pending := rfl

/-! ### `State.updateRecord` -/

@[simp] theorem State.updateRecord_straps (serial : Word16) (f : LogRecord → LogRecord) (s : State) :
    (s.updateRecord serial f).straps = s.straps := rfl
@[simp] theorem State.updateRecord_ref (serial : Word16) (f : LogRecord → LogRecord) (s : State) :
    (s.updateRecord serial f).ref = s.ref := rfl
@[simp] theorem State.updateRecord_cues (serial : Word16) (f : LogRecord → LogRecord) (s : State) :
    (s.updateRecord serial f).cues = s.cues := rfl
@[simp] theorem State.updateRecord_entries (serial : Word16) (f : LogRecord → LogRecord) (s : State) :
    (s.updateRecord serial f).entries = s.entries := rfl
@[simp] theorem State.updateRecord_out (serial : Word16) (f : LogRecord → LogRecord) (s : State) :
    (s.updateRecord serial f).out = s.out := rfl
@[simp] theorem State.updateRecord_takes (serial : Word16) (f : LogRecord → LogRecord) (s : State) :
    (s.updateRecord serial f).takes =
      { s.takes with log := s.takes.log.map (fun r => if r.serial == serial then f r else r) } := rfl
@[simp] theorem State.updateRecord_claimCounter (serial : Word16) (f : LogRecord → LogRecord) (s : State) :
    (s.updateRecord serial f).claimCounter = s.claimCounter := rfl
@[simp] theorem State.updateRecord_tracks (serial : Word16) (f : LogRecord → LogRecord) (s : State) :
    (s.updateRecord serial f).tracks = s.tracks := rfl
@[simp] theorem State.updateRecord_line (serial : Word16) (f : LogRecord → LogRecord) (s : State) :
    (s.updateRecord serial f).line = s.line := rfl
@[simp] theorem State.updateRecord_station (serial : Word16) (f : LogRecord → LogRecord) (s : State) :
    (s.updateRecord serial f).station = s.station := rfl
@[simp] theorem State.updateRecord_port (serial : Word16) (f : LogRecord → LogRecord) (s : State) :
    (s.updateRecord serial f).port = s.port := rfl
@[simp] theorem State.updateRecord_pending (serial : Word16) (f : LogRecord → LogRecord) (s : State) :
    (s.updateRecord serial f).pending = s.pending := rfl

/-! ### `State.dropJournal` -/

@[simp] theorem State.dropJournal_straps (serial : Word16) (s : State) :
    (s.dropJournal serial).straps = s.straps := rfl
@[simp] theorem State.dropJournal_ref (serial : Word16) (s : State) : (s.dropJournal serial).ref = s.ref := rfl
@[simp] theorem State.dropJournal_cues (serial : Word16) (s : State) : (s.dropJournal serial).cues = s.cues := rfl
@[simp] theorem State.dropJournal_entries (serial : Word16) (s : State) :
    (s.dropJournal serial).entries = s.entries := rfl
@[simp] theorem State.dropJournal_out (serial : Word16) (s : State) : (s.dropJournal serial).out = s.out := rfl
@[simp] theorem State.dropJournal_takes (serial : Word16) (s : State) :
    (s.dropJournal serial).takes =
      { s.takes with journal := s.takes.journal.filter (fun j => j.serial != serial) } := rfl
@[simp] theorem State.dropJournal_claimCounter (serial : Word16) (s : State) :
    (s.dropJournal serial).claimCounter = s.claimCounter := rfl
@[simp] theorem State.dropJournal_tracks (serial : Word16) (s : State) :
    (s.dropJournal serial).tracks = s.tracks := rfl
@[simp] theorem State.dropJournal_line (serial : Word16) (s : State) : (s.dropJournal serial).line = s.line := rfl
@[simp] theorem State.dropJournal_station (serial : Word16) (s : State) :
    (s.dropJournal serial).station = s.station := rfl
@[simp] theorem State.dropJournal_port (serial : Word16) (s : State) : (s.dropJournal serial).port = s.port := rfl
@[simp] theorem State.dropJournal_pending (serial : Word16) (s : State) :
    (s.dropJournal serial).pending = s.pending := rfl

/-! ### `State.dropBeeps` -/

@[simp] theorem State.dropBeeps_straps (slot : Nat) (s : State) : (s.dropBeeps slot).straps = s.straps := rfl
@[simp] theorem State.dropBeeps_ref (slot : Nat) (s : State) : (s.dropBeeps slot).ref = s.ref := rfl
@[simp] theorem State.dropBeeps_cues (slot : Nat) (s : State) : (s.dropBeeps slot).cues = s.cues := rfl
@[simp] theorem State.dropBeeps_entries (slot : Nat) (s : State) : (s.dropBeeps slot).entries = s.entries := rfl
@[simp] theorem State.dropBeeps_out (slot : Nat) (s : State) :
    (s.dropBeeps slot).out = { s.out with beeps := s.out.beeps.filter (fun b => b.slot != slot) } := rfl
@[simp] theorem State.dropBeeps_takes (slot : Nat) (s : State) : (s.dropBeeps slot).takes = s.takes := rfl
@[simp] theorem State.dropBeeps_claimCounter (slot : Nat) (s : State) :
    (s.dropBeeps slot).claimCounter = s.claimCounter := rfl
@[simp] theorem State.dropBeeps_tracks (slot : Nat) (s : State) : (s.dropBeeps slot).tracks = s.tracks := rfl
@[simp] theorem State.dropBeeps_line (slot : Nat) (s : State) : (s.dropBeeps slot).line = s.line := rfl
@[simp] theorem State.dropBeeps_station (slot : Nat) (s : State) : (s.dropBeeps slot).station = s.station := rfl
@[simp] theorem State.dropBeeps_port (slot : Nat) (s : State) : (s.dropBeeps slot).port = s.port := rfl
@[simp] theorem State.dropBeeps_pending (slot : Nat) (s : State) : (s.dropBeeps slot).pending = s.pending := rfl

/-! ### `State.judgeLevels` -/

@[simp] theorem State.judgeLevels_straps (s : State) : (s.judgeLevels).straps = s.straps := rfl
@[simp] theorem State.judgeLevels_ref (s : State) : (s.judgeLevels).ref = s.ref := rfl
@[simp] theorem State.judgeLevels_cues (s : State) : (s.judgeLevels).cues = s.cues := rfl
@[simp] theorem State.judgeLevels_entries (s : State) : (s.judgeLevels).entries = s.entries := rfl
@[simp] theorem State.judgeLevels_out (s : State) :
    (s.judgeLevels).out = { s.out with beep := s.beepLevel, light := s.lightLevel } := rfl
@[simp] theorem State.judgeLevels_takes (s : State) : (s.judgeLevels).takes = s.takes := rfl
@[simp] theorem State.judgeLevels_claimCounter (s : State) : (s.judgeLevels).claimCounter = s.claimCounter := rfl
@[simp] theorem State.judgeLevels_tracks (s : State) : (s.judgeLevels).tracks = s.tracks := rfl
@[simp] theorem State.judgeLevels_line (s : State) : (s.judgeLevels).line = s.line := rfl
@[simp] theorem State.judgeLevels_station (s : State) : (s.judgeLevels).station = s.station := rfl
@[simp] theorem State.judgeLevels_port (s : State) : (s.judgeLevels).port = s.port := rfl
@[simp] theorem State.judgeLevels_pending (s : State) : (s.judgeLevels).pending = s.pending := rfl

end Sys2Proof.Machine
end

