-- ==== Sys2Proof/Laws/Queue.lean ====
section
/-! SUPPORT. What the attention flags and the transmit queue can do: one lemma for each shared operation of
`Machine/Flags.lean` and of the queue (R158 to R160, R186), and the frame of giving a message. -/

namespace Sys2Proof.Machine

open Sys2Proof.Safety

/-! ### Flags -/

/-- An event sets its own flag and leaves every other as it was. -/
@[simp] theorem State.hasFlag_setFlag (f g : Flag) (s : State) :
    (s.setFlag f).hasFlag g = (s.hasFlag g || decide (g = f)) := by
  unfold State.hasFlag State.setFlag withFlag
  cases f <;> cases g <;> simp [flagBit]

theorem flagsKept_refl (s : State) : flagsKept s s := fun _ h => h

theorem flagsKept_trans {s t u : State} (h : flagsKept s t) (k : flagsKept t u) : flagsKept s u :=
  fun f hf => k f (h f hf)

theorem flagsKept_of_sticky {s t : State} (h : t.port.sticky = s.port.sticky) : flagsKept s t := by
  intro f hf
  simpa [State.hasFlag, h] using hf

theorem flagsKept_setFlag (f : Flag) (s : State) : flagsKept s (s.setFlag f) := by
  intro g hg
  simp [hg]

/-- ACK_FLAGS clears exactly the flags its word names (R186). -/
theorem getLsbD_ackSticky (word : Word16) (flags : BitVec 13) (f : Flag) :
    (ackSticky word flags).getLsbD (flagBit f) = (flags.getLsbD (flagBit f) && !word.getLsbD (flagBit f)) := by
  cases f <;> simp [ackSticky, flagBit]

/-! ### The queue's own operations -/

/-- A message joins between those that go before it and those of a higher class. -/
theorem insertTx_split (m : TxMsg) (q : List TxMsg) :
    ∃ before after, q = before ++ after ∧ insertTx m q = before ++ m :: after ∧
      (∀ x ∈ before, x.cls ≤ m.cls) ∧ ∀ x, after.head? = some x → m.cls < x.cls := by
  induction q with
  | nil => exact ⟨[], [], rfl, rfl, by simp, by simp⟩
  | cons x xs ih =>
    by_cases h : m.cls < x.cls
    · exact ⟨[], x :: xs, rfl, by simp [insertTx, h], by simp, by simpa using h⟩
    · obtain ⟨before, after, hq, hi, hb, ha⟩ := ih
      refine ⟨x :: before, after, by simp [hq], by simp [insertTx, h, hi], ?_, ha⟩
      intro y hy
      rcases List.mem_cons.mp hy with rfl | hy
      · omega
      · exact hb y hy

@[simp] theorem length_insertTx (m : TxMsg) (q : List TxMsg) : (insertTx m q).length = q.length + 1 := by
  obtain ⟨before, after, rfl, hi, -, -⟩ := insertTx_split m q
  simp [hi]; omega

@[simp] theorem mem_insertTx {m x : TxMsg} {q : List TxMsg} : x ∈ insertTx m q ↔ x = m ∨ x ∈ q := by
  obtain ⟨before, after, rfl, hi, -, -⟩ := insertTx_split m q
  simp [hi]; tauto

/-- The messages of a part of the queue are the same ones when it has been arranged. -/
theorem arranged_perm (order : List Message) (q : List TxMsg) : (arranged order q).Perm q := by
  induction order generalizing q with
  | nil => exact .refl q
  | cons m order ih =>
    unfold arranged
    split
    · next x hx => exact ((ih _).cons x).trans (List.perm_cons_erase (List.mem_of_find?_eq_some hx)).symm
    · exact ih q

/-- Ordering the messages of class 0 loses, adds and changes none (R124). -/
theorem orderUrgent_perm (old : Nat) (order : List Message) (s : State) :
    (s.orderUrgent old order).line.queue.Perm s.line.queue := by
  have h := (arranged_perm order ((s.line.queue.drop old).takeWhile (fun m => m.cls == 0))).append_right
    ((s.line.queue.drop old).dropWhile (fun m => m.cls == 0))
  rw [List.takeWhile_append_dropWhile] at h
  simpa [State.orderUrgent, State.withQueue, List.append_assoc] using h.append_left (s.line.queue.take old)

/-- Giving a message has three ends: it joins, it displaces the last message, or it is refused (R160). -/
theorem offerTx_cases (m : TxMsg) (q : List TxMsg) :
    (q.length < 8 ∧ offerTx m q = .joined (insertTx m q)) ∨
      (8 ≤ q.length ∧ (∃ victim, q.getLast? = some victim ∧ m.cls < victim.cls ∧ victim.underAttempt = false) ∧
        offerTx m q = .displaced (insertTx m q.dropLast)) ∨
      (8 ≤ q.length ∧ (∀ victim, q.getLast? = some victim → ¬ (m.cls < victim.cls ∧ victim.underAttempt = false)) ∧
        offerTx m q = .full) := by
  unfold offerTx
  by_cases h : q.length < 8
  · exact .inl ⟨h, by simp [h]⟩
  · right
    rcases hl : q.getLast? with _ | victim
    · exact .inr ⟨by omega, by simp, by simp [h]⟩
    · by_cases hv : m.cls < victim.cls ∧ victim.underAttempt = false
      · exact .inl ⟨by omega, ⟨victim, rfl, hv⟩, by simp [h, hv]⟩
      · exact .inr ⟨by omega, by simpa using hv, by simp [h, hv]⟩

/-! ### The frame of giving a message -/

/-- Nothing has changed but the transmit queue and the sticky flags, and every flag set stays set. -/
structure QueueOnly (s t : State) : Prop where
  state : t = { s with
    line := { s.line with queue := t.line.queue }, port := { s.port with sticky := t.port.sticky } }
  flags : flagsKept s t

theorem QueueOnly.refl (s : State) : QueueOnly s s := ⟨rfl, flagsKept_refl s⟩

theorem QueueOnly.trans {s t u : State} (h : QueueOnly s t) (k : QueueOnly t u) : QueueOnly s u :=
  ⟨k.state.trans (by rw [h.state]), flagsKept_trans h.flags k.flags⟩

theorem queueOnly_withQueue (q : List TxMsg) (s : State) : QueueOnly s (s.withQueue q) :=
  ⟨rfl, flagsKept_of_sticky rfl⟩

theorem queueOnly_orderUrgent (old : Nat) (order : List Message) (s : State) :
    QueueOnly s (s.orderUrgent old order) := queueOnly_withQueue _ _

theorem queueOnly_setFlag (f : Flag) (s : State) : QueueOnly s (s.setFlag f) := ⟨rfl, flagsKept_setFlag f s⟩

/-- A block that gives a message changes the queue and QUEUE_DROP alone (R158 to R160). -/
theorem queueOnly_giveInternal (c : TxContent) (s : State) : QueueOnly s (s.giveInternal c) := by
  unfold State.giveInternal
  rcases offerTx_cases (freshTx c .internal) s.line.queue with ⟨-, h⟩ | ⟨-, -, h⟩ | ⟨-, -, h⟩ <;> simp only [h]
  · exact queueOnly_withQueue _ _
  · exact (queueOnly_withQueue _ _).trans (queueOnly_setFlag _ _)
  · exact queueOnly_setFlag _ _

theorem queueOnly_give (dest : Addr) (m : Message) (s : State) : QueueOnly s (s.give dest m) :=
  queueOnly_giveInternal _ _

theorem queueOnly_giveBeacon (s : State) : QueueOnly s s.giveBeacon := by
  unfold State.giveBeacon
  split
  · exact queueOnly_withQueue _ _
  · exact queueOnly_giveInternal _ _

/-- In a queue with room a message that a block gives joins at its place and no flag is set. -/
theorem giveInternal_of_room (c : TxContent) (s : State) (h : s.line.queue.length < 8) :
    s.giveInternal c = s.withQueue (insertTx (freshTx c .internal) s.line.queue) := by
  unfold State.giveInternal offerTx
  simp [h]

/-- Giving a message keeps the queue at 8 messages or fewer. -/
theorem length_queue_giveInternal (c : TxContent) (s : State) (h : s.line.queue.length ≤ 8) :
    (s.giveInternal c).line.queue.length ≤ 8 := by
  unfold State.giveInternal
  rcases offerTx_cases (freshTx c .internal) s.line.queue with ⟨hl, he⟩ | ⟨hl, -, he⟩ | ⟨-, -, he⟩ <;> simp only [he]
  · simp; omega
  · simp; omega
  · simpa using h

end Sys2Proof.Machine
end

