-- ==== Sys2Proof/Laws/Booth.lean ====
section
/-! SUPPORT. The frame of every operation of a booth's blocks (spec 02 to spec 06): one lemma each, which says that the
operation leaves the straps, the reference unit, the desk's log, the tracks, the station unit, the commands waiting, and
the line unit and the port but for their queue and sticky flags. -/

namespace Sys2Proof.Machine

open Sys2Proof.Safety

/-- Nothing has changed outside what the blocks of a booth own, give and flag. -/
structure BoothOnly (s t : State) : Prop where
  state : t = { s with
    cues := t.cues, entries := t.entries, out := t.out, claimCounter := t.claimCounter
    takes := { t.takes with deskLog := s.takes.deskLog }
    line := { s.line with queue := t.line.queue }, port := { s.port with sticky := t.port.sticky } }
  flags : flagsKept s t

namespace BoothOnly

theorem refl (s : State) : BoothOnly s s := ⟨rfl, flagsKept_refl s⟩

theorem trans {s t u : State} (h : BoothOnly s t) (k : BoothOnly t u) : BoothOnly s u :=
  ⟨k.state.trans (by rw [h.state]), flagsKept_trans h.flags k.flags⟩

theorem of_queueOnly {s t : State} (h : QueueOnly s t) : BoothOnly s t :=
  ⟨h.state.trans (by rw [h.state]), h.flags⟩

theorem straps {s t : State} (h : BoothOnly s t) : t.straps = s.straps := by rw [h.state]

theorem ref {s t : State} (h : BoothOnly s t) : t.ref = s.ref := by rw [h.state]

theorem station {s t : State} (h : BoothOnly s t) : t.station = s.station := by rw [h.state]

theorem tracks {s t : State} (h : BoothOnly s t) : t.tracks = s.tracks := by rw [h.state]

theorem pending {s t : State} (h : BoothOnly s t) : t.pending = s.pending := by rw [h.state]

theorem deskLog {s t : State} (h : BoothOnly s t) : t.takes.deskLog = s.takes.deskLog := by rw [h.state]

/-- What each step of a list does, the whole list does. -/
theorem foldl {α : Type} {f : State → α → State} (h : ∀ s x, BoothOnly s (f s x)) (l : List α) (s : State) :
    BoothOnly s (l.foldl f s) := by
  induction l generalizing s with
  | nil => exact refl s
  | cons x xs ih => exact (h s x).trans (ih (f s x))

end BoothOnly

/-! ### Single updates -/

theorem boothOnly_setFlag (f : Flag) (s : State) : BoothOnly s (s.setFlag f) :=
  .of_queueOnly (queueOnly_setFlag f s)

theorem boothOnly_give (dest : Addr) (m : Message) (s : State) : BoothOnly s (s.give dest m) :=
  .of_queueOnly (queueOnly_give dest m s)

theorem boothOnly_updateEntry (slot : Nat) (f : Entry → Entry) (s : State) : BoothOnly s (s.updateEntry slot f) :=
  ⟨rfl, flagsKept_of_sticky rfl⟩

theorem boothOnly_setCue (slot : Nat) (c : Option Cue) (s : State) : BoothOnly s (s.setCue slot c) :=
  ⟨rfl, flagsKept_of_sticky rfl⟩

theorem boothOnly_updateCue (slot : Nat) (f : Cue → Cue) (s : State) : BoothOnly s (s.updateCue slot f) := by
  unfold State.updateCue
  split
  · exact boothOnly_setCue _ _ _
  · exact .refl s

theorem boothOnly_updateRecord (serial : Word16) (f : LogRecord → LogRecord) (s : State) :
    BoothOnly s (s.updateRecord serial f) := ⟨rfl, flagsKept_of_sticky rfl⟩

theorem boothOnly_dropJournal (serial : Word16) (s : State) : BoothOnly s (s.dropJournal serial) :=
  ⟨rfl, flagsKept_of_sticky rfl⟩

theorem boothOnly_dropBeeps (slot : Nat) (s : State) : BoothOnly s (s.dropBeeps slot) :=
  ⟨rfl, flagsKept_of_sticky rfl⟩

theorem boothOnly_out (o : Outputs) (s : State) : BoothOnly s { s with out := o } := ⟨rfl, flagsKept_of_sticky rfl⟩

theorem boothOnly_entries (es : List Entry) (s : State) : BoothOnly s { s with entries := es } :=
  ⟨rfl, flagsKept_of_sticky rfl⟩

/-! ### The claim unit -/

theorem boothOnly_releaseEntry (reason : ReleaseReason) (e : Entry) (s : State) :
    BoothOnly s (releaseEntry reason e s) := by
  unfold releaseEntry
  split
  · exact (boothOnly_give _ _ _).trans (boothOnly_updateEntry _ _ _)
  · exact boothOnly_updateEntry _ _ _

theorem boothOnly_releaseClaim (reason : ReleaseReason) (slot : Nat) (s : State) :
    BoothOnly s (releaseClaim reason slot s) := by
  unfold releaseClaim
  split
  · split
    · exact boothOnly_releaseEntry _ _ _
    · exact .refl s
  · exact .refl s

theorem boothOnly_releaseLimit (slot : Nat) (s : State) : BoothOnly s (releaseLimit slot s) := by
  unfold releaseLimit
  split
  · split
    · exact boothOnly_releaseEntry _ _ _
    · exact .refl s
  · exact .refl s

theorem boothOnly_sendClaim (track : Byte) (c : Cue) (e : Entry) (s : State) : BoothOnly s (sendClaim track c e s) := by
  unfold sendClaim
  refine .trans (t := State.updateEntry e.slot (Entry.claimed (s.claimCounter + 1#8))
    { s with claimCounter := s.claimCounter + 1#8 }) ?_ (boothOnly_give _ _ _)
  exact ⟨rfl, flagsKept_of_sticky rfl⟩

theorem boothOnly_newClaim (slot : Nat) (s : State) : BoothOnly s (newClaim slot s) := by
  unfold newClaim
  split
  · split
    · split
      · exact boothOnly_sendClaim _ _ _ _
      · exact boothOnly_updateEntry _ _ _
    · exact .refl s
  · exact .refl s

theorem boothOnly_grantEntry (m : AnswerMsg) (e : Entry) (s : State) : BoothOnly s (grantEntry m e s) := by
  unfold grantEntry
  split
  · exact .refl s
  · exact boothOnly_give _ _ _
  · exact .refl s
  all_goals
    split
    · exact boothOnly_releaseEntry _ _ _
    · exact boothOnly_updateEntry _ _ _

theorem boothOnly_denyEntry (r : DenyReason) (e : Entry) (s : State) : BoothOnly s (denyEntry r e s) := by
  unfold denyEntry
  split <;> first | exact .refl s | exact boothOnly_updateEntry _ _ _

/-- An ANSWER (R118 to R122). -/
theorem boothOnly_takeAnswer (m : AnswerMsg) (s : State) : BoothOnly s (takeAnswer m s) := by
  unfold takeAnswer
  split
  · exact boothOnly_grantEntry _ _ _
  · exact boothOnly_denyEntry _ _ _
  · exact boothOnly_give _ _ _
  · exact .refl s

/-! ### The take unit -/

theorem boothOnly_startTake (slot : Nat) (c : Cue) (e : Entry) (s : State) : BoothOnly s (startTake slot c e s) := by
  unfold startTake
  refine .trans (.trans (t := { s with takes := startLog slot c e (decide (s.ref.transport = .vari)) s.takes })
    ⟨rfl, flagsKept_of_sticky rfl⟩ (boothOnly_updateCue _ _ _)) (boothOnly_updateEntry _ _ _)

theorem boothOnly_giveNote (serial : Word16) (s : State) : BoothOnly s (giveNote serial s) := by
  unfold giveNote
  split
  · exact boothOnly_give _ _ _
  · exact .refl s

theorem boothOnly_closeTake (result : TakeResult) (stop slot : Nat) (serial : Word16) (s : State) :
    BoothOnly s (closeTake result stop slot serial s) := by
  unfold closeTake
  exact (((((boothOnly_updateRecord _ _ _).trans (boothOnly_updateCue _ _ _)).trans (boothOnly_dropJournal _ _)).trans
    (boothOnly_updateEntry _ _ _)).trans (boothOnly_giveNote _ _)).trans (boothOnly_setFlag _ _)

theorem boothOnly_unwindTake (slot : Nat) (serial : Word16) (s : State) : BoothOnly s (unwindTake slot serial s) := by
  unfold unwindTake
  split
  · rename_i j _
    refine .trans (.trans (.trans (t := { s with takes := { s.takes with log := unwindLog s.takes.serial j s.takes.log } })
      ⟨rfl, flagsKept_of_sticky rfl⟩ (boothOnly_updateCue _ _ _)) (boothOnly_dropJournal _ _)) (boothOnly_updateEntry _ _ _)
  · exact .refl s

theorem boothOnly_stopTake (e : Entry) (serial : Word16) (s : State) : BoothOnly s (stopTake e serial s) := by
  unfold stopTake
  split
  · exact boothOnly_closeTake _ _ _ _ _
  · exact boothOnly_unwindTake _ _ _

theorem boothOnly_abortTake (cause : TakeCause) (slot : Nat) (s : State) : BoothOnly s (abortTake cause slot s) := by
  unfold abortTake
  split
  · split
    · split
      · exact (boothOnly_stopTake _ _ _).trans (boothOnly_releaseClaim _ _ _)
      · exact boothOnly_stopTake _ _ _
    · exact .refl s
  · exact .refl s

theorem boothOnly_abortTakes (cause : TakeCause) (s : State) : BoothOnly s (abortTakes cause s) :=
  .foldl (fun t slot => boothOnly_abortTake cause slot t) _ s

theorem boothOnly_punchInTake (slot : Nat) (s : State) : BoothOnly s (punchInTake slot s) := by
  unfold punchInTake
  split
  · split
    · exact .refl s
    · split
      · exact .refl s
      · split
        · exact .refl s
        · split
          · exact (boothOnly_releaseLimit _ _).trans (boothOnly_updateEntry _ _ _)
          · split
            · exact (boothOnly_releaseLimit _ _).trans (boothOnly_updateEntry _ _ _)
            · exact boothOnly_startTake _ _ _ _
  · exact .refl s

theorem boothOnly_punchOutTake (slot : Nat) (s : State) : BoothOnly s (punchOutTake slot s) := by
  unfold punchOutTake
  split
  · split
    · exact boothOnly_closeTake _ _ _ _ _
    · exact .refl s
  · exact .refl s

/-! ### The cue outputs -/

theorem boothOnly_settle (s : State) : BoothOnly s s.settle := by
  unfold State.settle State.redraw State.judgeLevels
  split
  · split <;> exact ⟨rfl, flagsKept_of_sticky rfl⟩
  · exact ⟨rfl, flagsKept_of_sticky rfl⟩

theorem boothOnly_settleBoundary (s : State) : BoothOnly s s.settleBoundary :=
  .trans (boothOnly_out _ s) (boothOnly_settle _)

theorem boothOnly_fixKeyed (s : State) : BoothOnly s s.fixKeyed := boothOnly_out _ s

theorem boothOnly_agedBeeps (p : Nat) (s : State) : BoothOnly s (agedBeeps p s) := boothOnly_out _ s

theorem boothOnly_beepMark (slot mark : Nat) (s : State) : BoothOnly s (beepMark slot mark s) := by
  unfold beepMark
  split
  · split
    · exact .refl s
    · exact boothOnly_out _ s
  · exact .refl s

/-! ### The lookahead -/

theorem boothOnly_removeEntry (slot : Nat) (s : State) : BoothOnly s (removeEntry slot s) :=
  ⟨rfl, flagsKept_of_sticky rfl⟩

theorem boothOnly_evict (slot : Nat) (s : State) : BoothOnly s (evict slot s) :=
  (boothOnly_releaseClaim _ _ _).trans (boothOnly_removeEntry _ _)

theorem boothOnly_createEntry (slot : Nat) (s : State) : BoothOnly s (createEntry slot s) := by
  unfold createEntry
  split
  · exact (boothOnly_entries _ s).trans (boothOnly_newClaim _ _)
  · exact .refl s

theorem boothOnly_reform (s : State) : BoothOnly s (reform s) :=
  ((boothOnly_entries _ s).trans (.foldl (fun t slot => boothOnly_evict slot t) _ _)).trans
    (.foldl (fun t slot => boothOnly_createEntry slot t) _ _)

theorem boothOnly_recompute (s : State) : BoothOnly s (recompute s) := by
  unfold recompute
  split
  · exact boothOnly_reform s
  · exact .refl s

theorem boothOnly_setPhases (s : State) : BoothOnly s (setPhases s) := boothOnly_entries _ s

theorem boothOnly_retire (slot : Nat) (s : State) : BoothOnly s (retire slot s) :=
  ((boothOnly_punchOutTake _ _).trans (boothOnly_releaseClaim _ _ _)).trans (boothOnly_removeEntry _ _)

theorem boothOnly_markAction (slot pos : Nat) (k : MarkKind) (s : State) : BoothOnly s (markAction slot pos k s) := by
  cases k <;>
    first
      | exact .refl s
      | exact boothOnly_beepMark _ _ s
      | exact boothOnly_punchInTake _ s
      | exact boothOnly_out _ s
      | exact boothOnly_retire _ s

theorem boothOnly_takeMark (o j slot : Nat) (k : MarkKind) (s : State) : BoothOnly s (takeMark o j slot k s) := by
  unfold takeMark
  split
  · split
    · split
      · exact (boothOnly_updateEntry _ _ _).trans (boothOnly_markAction _ _ _ _)
      · exact .refl s
    · exact .refl s
  · exact .refl s

theorem boothOnly_takeMarksAt (o j : Nat) (slots : List Nat) (s : State) : BoothOnly s (takeMarksAt o j slots s) :=
  .foldl (fun t slot => .foldl (fun u k => boothOnly_takeMark o j slot k u) allMarks t) slots s

theorem boothOnly_takeMarks (o : Nat) (d : Int) (s : State) : BoothOnly s (takeMarks o d s) := by
  unfold takeMarks
  split
  · exact (boothOnly_takeMarksAt _ _ _ _).trans (boothOnly_takeMarksAt _ _ _ _)
  · exact boothOnly_takeMarksAt _ _ _ _

theorem boothOnly_rebuildEntry (slot : Nat) (s : State) : BoothOnly s (rebuildEntry slot s) := by
  unfold rebuildEntry
  split
  · split
    · exact (boothOnly_updateEntry _ _ _).trans (boothOnly_newClaim _ _)
    · exact boothOnly_updateEntry _ _ _
  · exact .refl s

theorem boothOnly_rebuild (s : State) : BoothOnly s (rebuild s) :=
  (((boothOnly_recompute s).trans (boothOnly_out _ _)).trans
    (.foldl (fun t slot => boothOnly_rebuildEntry slot t) _ _)).trans (boothOnly_setPhases _)

/-- The lookahead at a boundary report (R58). -/
theorem boothOnly_lookaheadBoundary (r : Report) (s : State) : BoothOnly s (lookaheadBoundary r s) := by
  unfold lookaheadBoundary
  split
  · split
    · exact boothOnly_rebuild s
    · split
      · exact ((boothOnly_takeMarks _ _ _).trans (boothOnly_recompute _)).trans (boothOnly_setPhases _)
      · exact (boothOnly_recompute _).trans (boothOnly_setPhases _)
  · exact .refl s

theorem boothOnly_standDown (slot : Nat) (s : State) : BoothOnly s (standDown slot s) :=
  ((boothOnly_releaseClaim _ _ _).trans (boothOnly_updateEntry _ _ _)).trans (boothOnly_dropBeeps _ _)

theorem boothOnly_standAllDown (s : State) : BoothOnly s (standAllDown s) :=
  (boothOnly_abortTakes _ s).trans (.foldl (fun t slot => boothOnly_standDown slot t) _ _)

theorem boothOnly_abortLookahead (s : State) : BoothOnly s (abortLookahead s) :=
  ((boothOnly_standAllDown s).trans (.of_queueOnly (queueOnly_orderUrgent _ _ _))).trans (boothOnly_recompute _)

theorem boothOnly_deselectEntry (slot : Nat) (s : State) : BoothOnly s (deselectEntry slot s) :=
  ((boothOnly_abortTake _ _ _).trans (boothOnly_releaseClaim _ _ _)).trans (boothOnly_removeEntry _ _)

theorem boothOnly_emptyForEngine (s : State) : BoothOnly s (emptyForEngine s) :=
  (boothOnly_abortTakes _ s).trans
    (.foldl (fun t slot => (boothOnly_releaseClaim _ _ t).trans (boothOnly_removeEntry slot _)) _ _)

theorem boothOnly_emptyForMuted (s : State) : BoothOnly s (emptyForMuted s) :=
  (boothOnly_abortTakes _ s).trans (boothOnly_entries _ _)

/-! ### The blocks of a booth at a boundary and at a table message -/

theorem boothOnly_markOffSpeed (s : State) : BoothOnly s (markOffSpeed s) := by
  unfold markOffSpeed
  split
  · exact ⟨rfl, flagsKept_of_sticky rfl⟩
  · exact .refl s

theorem boothOnly_gateEvidence (m : GateMsg) (s : State) : BoothOnly s (gateEvidence m s) := by
  unfold gateEvidence
  split
  · split
    · exact boothOnly_updateEntry _ _ _
    · exact .refl s
  · exact .refl s

theorem boothOnly_transportAbort (r : Report) (s : State) : BoothOnly s (transportAbort r s) := by
  unfold transportAbort
  split
  · exact boothOnly_abortTakes _ s
  · exact .refl s

theorem boothOnly_ageBeeps (r : Report) (s : State) : BoothOnly s (ageBeeps r s) := by
  unfold ageBeeps
  split
  · exact boothOnly_agedBeeps _ s
  · exact .refl s

/-- The blocks of a booth at a boundary report (R58, R83, R99, R103). -/
theorem boothOnly_boothBoundary (r : Report) (s : State) : BoothOnly s (boothBoundary r s) :=
  (((boothOnly_markOffSpeed s).trans (boothOnly_transportAbort _ _)).trans (boothOnly_lookaheadBoundary _ _)).trans
    (boothOnly_ageBeeps _ _)

theorem boothOnly_tableChanged (s : State) : BoothOnly s (tableChanged s) :=
  (boothOnly_recompute s).trans (boothOnly_settle _)

end Sys2Proof.Machine
end

