-- ==== Sys2Proof/Laws/Recorder.lean ====
section
/-! SUPPORT. The frame of every operation of a recorder's reservation unit (spec 07), and the places of its tracks. -/

namespace Sys2Proof.Machine

open Sys2Proof.Safety

/-- Nothing has changed but the own tracks, the transmit queue and the sticky flags. -/
structure RecorderOnly (s t : State) : Prop where
  state : t = { s with
    tracks := t.tracks, line := { s.line with queue := t.line.queue }, port := { s.port with sticky := t.port.sticky } }
  flags : flagsKept s t

namespace RecorderOnly

theorem refl (s : State) : RecorderOnly s s := ⟨rfl, flagsKept_refl s⟩

theorem trans {s t u : State} (h : RecorderOnly s t) (k : RecorderOnly t u) : RecorderOnly s u :=
  ⟨k.state.trans (by rw [h.state]), flagsKept_trans h.flags k.flags⟩

theorem of_queueOnly {s t : State} (h : QueueOnly s t) : RecorderOnly s t :=
  ⟨h.state.trans (by rw [h.state]), h.flags⟩

theorem straps {s t : State} (h : RecorderOnly s t) : t.straps = s.straps := by rw [h.state]

theorem ref {s t : State} (h : RecorderOnly s t) : t.ref = s.ref := by rw [h.state]

theorem station {s t : State} (h : RecorderOnly s t) : t.station = s.station := by rw [h.state]

theorem entries {s t : State} (h : RecorderOnly s t) : t.entries = s.entries := by rw [h.state]

theorem out {s t : State} (h : RecorderOnly s t) : t.out = s.out := by rw [h.state]

/-- What each step of a list does, the whole list does. -/
theorem foldl {α : Type} {f : State → α → State} (h : ∀ s x, RecorderOnly s (f s x)) (l : List α) (s : State) :
    RecorderOnly s (l.foldl f s) := by
  induction l generalizing s with
  | nil => exact refl s
  | cons x xs ih => exact (h s x).trans (ih (f s x))

end RecorderOnly

theorem recorderOnly_setFlag (f : Flag) (s : State) : RecorderOnly s (s.setFlag f) :=
  .of_queueOnly (queueOnly_setFlag f s)

theorem recorderOnly_give (dest : Addr) (m : Message) (s : State) : RecorderOnly s (s.give dest m) :=
  .of_queueOnly (queueOnly_give dest m s)

theorem recorderOnly_tracks (ts : List Track) (s : State) : RecorderOnly s { s with tracks := ts } :=
  ⟨rfl, flagsKept_of_sticky rfl⟩

theorem recorderOnly_setTrack (i : Nat) (t : Track) (s : State) : RecorderOnly s (s.setTrack i t) :=
  recorderOnly_tracks _ s

/-! ### The gate (R133 to R136) -/

/-- An announcement changes the queue and the flags alone: never a track. -/
theorem queueOnly_announceGate (i : Nat) (reason : GateReason) (before after : Option Reservation) (s : State) :
    QueueOnly s (announceGate i reason before after s) := by
  unfold announceGate
  split
  · exact .refl s
  · exact queueOnly_give _ _ _
  · exact queueOnly_give _ _ _
  · split
    · exact .refl s
    · unfold announceHandover
      split
      · exact queueOnly_give _ _ _
      · exact (queueOnly_give _ _ _).trans (queueOnly_give _ _ _)

theorem recorderOnly_evaluateTrack (reason : GateReason) (i : Nat) (s : State) :
    RecorderOnly s (evaluateTrack reason i s) := by
  unfold evaluateTrack
  split
  · exact (recorderOnly_setTrack _ _ _).trans (.of_queueOnly (queueOnly_announceGate _ _ _ _ _))
  · exact .refl s

/-- An evaluation gives one track the reservation that R133 names, and touches no other track. -/
theorem tracks_evaluateTrack (reason : GateReason) (i : Nat) (s : State) :
    (evaluateTrack reason i s).tracks = s.tracks.modify i (fun t => { t with named := s.gateNamed t }) := by
  unfold evaluateTrack
  split
  · rename_i t ht
    rw [(queueOnly_announceGate _ _ _ _ _).state]
    refine List.ext_getElem? fun j => ?_
    obtain ⟨hi, rfl⟩ := List.getElem?_eq_some_iff.mp ht
    by_cases hj : i = j
    · subst hj
      simp [hi]
    · simp [hj]
  · rename_i hn
    refine List.ext_getElem? fun j => ?_
    by_cases hj : i = j
    · subst hj
      simp [hn]
    · simp [hj]

theorem recorderOnly_evaluateTracks (s : State) : RecorderOnly s (evaluateTracks s) :=
  .foldl (fun t i => recorderOnly_evaluateTrack .ended i t) _ s

theorem recorderOnly_cutTrack (reason : GateReason) (i : Nat) (s : State) : RecorderOnly s (cutTrack reason i s) := by
  unfold cutTrack
  split
  · split
    · exact ((recorderOnly_setTrack _ _ _).trans (recorderOnly_give _ _ _)).trans (recorderOnly_setFlag _ _)
    · exact .refl s
  · exact .refl s

theorem recorderOnly_cutTracks (reason : GateReason) (s : State) : RecorderOnly s (cutTracks reason s) :=
  .foldl (fun t i => recorderOnly_cutTrack reason i t) _ s

theorem recorderOnly_protect (r : Report) (s : State) : RecorderOnly s (protect r s) := by
  unfold protect
  split
  · exact recorderOnly_cutTracks _ s
  · exact .refl s

theorem recorderOnly_engineTracks (s : State) : RecorderOnly s (engineTracks s) :=
  (recorderOnly_cutTracks _ s).trans (recorderOnly_tracks _ _)

/-! ### Boundaries, losses and messages -/

/-- The reservation unit at a boundary report (R134). -/
theorem recorderOnly_reservationBoundary (r : Report) (s : State) : RecorderOnly s (reservationBoundary r s) := by
  unfold reservationBoundary
  split
  · exact ((recorderOnly_protect r s).trans (recorderOnly_tracks _ _)).trans (recorderOnly_evaluateTracks _)
  · exact (recorderOnly_protect r s).trans (recorderOnly_evaluateTracks _)

theorem recorderOnly_cutLost (i : Nat) (lost : Option Reservation) (s : State) : RecorderOnly s (cutLost i lost s) := by
  unfold cutLost
  split
  · exact (recorderOnly_give _ _ _).trans (recorderOnly_setFlag _ _)
  · exact .refl s

theorem recorderOnly_reservationsPeerLost (a : Addr) (s : State) : RecorderOnly s (reservationsPeerLost a s) := by
  refine .foldl (fun t i => ?_) _ s
  unfold peerLostTrack
  split
  · exact ((recorderOnly_setTrack _ _ _).trans (recorderOnly_cutLost _ _ _)).trans (recorderOnly_evaluateTrack _ _ _)
  · exact .refl t

/-- A CLAIM (R129 to R132). -/
theorem recorderOnly_takeClaim (source : Addr) (m : ClaimMsg) (s : State) : RecorderOnly s (takeClaim source m s) := by
  unfold takeClaim
  split
  · split
    · exact ((recorderOnly_setTrack _ _ _).trans (recorderOnly_give _ _ _)).trans (recorderOnly_evaluateTrack _ _ _)
    · exact .refl s
  · exact .refl s

/-- A RELEASE (R137). -/
theorem recorderOnly_takeRelease (source : Addr) (m : ReleaseMsg) (s : State) :
    RecorderOnly s (takeRelease source m s) := by
  unfold takeRelease
  split
  · split
    · split
      · exact (recorderOnly_setTrack _ _ _).trans (recorderOnly_evaluateTrack _ _ _)
      · exact .refl s
    · exact .refl s
  · exact .refl s

/-- An ABORT (R138). -/
theorem recorderOnly_abortReservations (room : AbortRoom) (s : State) : RecorderOnly s (abortReservations room s) :=
  (recorderOnly_tracks _ s).trans (.foldl (fun t i => recorderOnly_evaluateTrack .abort i t) _ _)

/-- A reservation joins between those whose F1 lies as near or nearer and those whose F1 lies further (R128). -/
theorem insertReservation_split (D p : Nat) (r : Reservation) (table : List Reservation) :
    ∃ before after, table = before ++ after ∧ insertReservation D p r table = before ++ r :: after ∧
      (∀ x ∈ before, fwd D p x.f1 ≤ fwd D p r.f1) ∧ ∀ x, after.head? = some x → fwd D p r.f1 < fwd D p x.f1 := by
  induction table with
  | nil => exact ⟨[], [], rfl, rfl, by simp, by simp⟩
  | cons x xs ih =>
    by_cases h : fwd D p r.f1 < fwd D p x.f1
    · exact ⟨[], x :: xs, rfl, by simp [insertReservation, h], by simp, by simpa using h⟩
    · obtain ⟨before, after, ht, hi, hb, ha⟩ := ih
      refine ⟨x :: before, after, by simp [ht], by simp [insertReservation, h, hi], ?_, ha⟩
      intro y hy
      rcases List.mem_cons.mp hy with rfl | hy
      · omega
      · exact hb y hy

end Sys2Proof.Machine
end

