-- ==== Sys2Proof/Laws/Frames.lean ====
section
/-! SUPPORT. Reception once over: what a header, a judged frame and a delivered message can do, for every row at once;
the first moves of a boundary and of a reset, and KEY while the pixel clock is stopped. -/

namespace Sys2Proof.Machine

open Sys2Proof.Safety

/-! ### Headers (R151, R174, R176) -/

/-- The source of a good header is heard, or clashes: outside JOINING and ACTIVE the clash only sets its flag. -/
theorem takeSource_cases (source : Addr) (s : State) :
    (source ≠ s.straps.address ∧ takeSource source s = s.updatePeer source Peer.heard) ∨
      (source = s.straps.address ∧ (s.station.state = .held ∨ s.station.state = .muted) ∧
        takeSource source s = s.setFlag .addrClash) ∨
      (source = s.straps.address ∧ (s.station.state = .joining ∨ s.station.state = .active) ∧
        takeSource source s = enterMuted (s.setFlag .addrClash)) := by
  unfold takeSource addressClash
  by_cases h : source = s.straps.address
  · rcases hs : s.station.state <;> simp [h]
  · simp [h]

/-- The source of a header that the station drives itself changes nothing, and any other is taken (R176). -/
theorem handSource_cases (own : Bool) (source : Addr) (s : State) :
    (own = true ∧ source = s.straps.address ∧ handSource own source s = s) ∨
      ((own = false ∨ source ≠ s.straps.address) ∧ handSource own source s = takeSource source s) := by
  unfold handSource
  by_cases h : source = s.straps.address <;> cases own <;> simp [h]

/-! ### Good frames (R149 to R152) -/

/-- A good frame whose header has been taken is handed to its owner, or changes nothing. -/
theorem takeFrame_of_taken {h : FrameHead} {m : Message} {act : State → State} {s : State} (ht : headerTaken h m s) :
    takeFrame h m act s =
      if delivered s.straps.address h m && handedIn s.station.state m then act (judged s) else judged s := by
  unfold headerTaken at ht
  simp [takeFrame, State.abandons, ht, handOn, judgedFrame, beginFrame, judged]

/-- A good frame handed to an ACTIVE station is its owner's action. -/
theorem takeFrame_of_handed {h : FrameHead} {m : Message} {act : State → State} {s : State} (hh : handed h m s) :
    takeFrame h m act s = act (judged s) := by
  obtain ⟨ht, hd, ha⟩ := hh
  rw [takeFrame_of_taken ht, hd]
  cases m <;> simp [handedIn, ha]

/-- A frame abandoned at a reset is not judged (R165). -/
theorem takeFrame_of_abandoned {h : FrameHead} {m : Message} {act : State → State} {s : State}
    (hr : s.line.receiver = .abandoned none ∨ s.line.receiver = .abandoned (some (headerOfFrame h m))) :
    takeFrame h m act s = judged s := by
  rcases hr with hr | hr <;> simp [takeFrame, State.abandons, hr, judged]

theorem judged_fields (s : State) :
    (judged s).straps = s.straps ∧ (judged s).ref = s.ref ∧ (judged s).cues = s.cues ∧ (judged s).entries = s.entries ∧
      (judged s).out = s.out ∧ (judged s).takes = s.takes ∧ (judged s).claimCounter = s.claimCounter ∧
      (judged s).tracks = s.tracks ∧ (judged s).station = s.station ∧ (judged s).port = s.port ∧
      (judged s).line.queue = s.line.queue ∧ (judged s).pending = s.pending :=
  ⟨rfl, rfl, rfl, rfl, rfl, rfl, rfl, rfl, rfl, rfl, rfl, rfl⟩

/-! ### The idle count (R145, R154) -/

/-- Bit times without a dominant half change the idle count and end the rest of a frame that is not judged; while a frame
is under way none passes. -/
theorem quietLine_cases (n : Nat) (s : State) :
    (s.lineHeld = true ∧ quietLine n s = s) ∨
      (s.lineHeld = false ∧
        quietLine n s = { s with line := { s.line with
          idle := quietCount n s.line.idle, receiver := s.line.receiver.afterQuiet n } }) := by
  unfold quietLine
  by_cases h : s.lineHeld <;> simp [h]

/-- An attempt begins for the head, or nothing happens. -/
theorem attemptHead_cases (s : State) :
    (∃ m rest, s.line.queue = m :: rest ∧ s.station.state = .active ∧ s.lineHeld = false ∧ s.gapRun m = true ∧
      attemptHead s = beginAttempt m rest s) ∨ attemptHead s = s := by
  unfold attemptHead
  rcases hq : s.line.queue with _ | ⟨m, rest⟩
  · exact .inr rfl
  · by_cases h : (s.active && !s.lineHeld && s.gapRun m) = true
    · refine .inl ⟨m, rest, rfl, ?_⟩
      simp only [Bool.and_eq_true, Bool.not_eq_true'] at h
      exact ⟨by simpa [State.active] using h.1.1, h.1.2, h.2, by simp [h]⟩
    · exact .inr (by simp [h])

/-- The line turns busy with a frame that has begun, or nothing happens. -/
theorem turnBusy_cases (busy : Bool) (s : State) :
    (busy = true ∧ s.lineHeld = false ∧ s.line.receiver = .awaiting ∧ turnBusy busy s = s.withReceiver (.incoming none)) ∨
      turnBusy busy s = s := by
  unfold turnBusy
  by_cases h : (busy && !s.lineHeld && s.line.receiver == .awaiting) = true
  · refine .inl ?_
    simp only [Bool.and_eq_true, Bool.not_eq_true', beq_iff_eq] at h
    exact ⟨h.1.1, h.1.2, h.2, by simp [h]⟩
  · exact .inr (by simp only [h, Bool.false_eq_true, if_false])

/-! ### Boundaries (R6, R22) -/

/-- Outside its own unit a boundary changes what the blocks of one role own, the queue and the sticky flags. -/
theorem roleBoundary_cases (r : Report) (s : State) :
    BoothOnly s (roleBoundary r s) ∨ RecorderOnly s (roleBoundary r s) := by
  unfold roleBoundary
  split
  · exact .inl (boothOnly_boothBoundary r s)
  · split
    · exact .inr (recorderOnly_reservationBoundary r s)
    · exact .inl (.refl s)

theorem queueOnly_reportBeacon (r : Report) (s : State) : QueueOnly s (reportBeacon r s) := by
  unfold reportBeacon
  split
  · exact queueOnly_giveBeacon s
  · exact .refl s

/-! ### Resets (R178) -/

/-- The fields a hardware reset, RESTART or CLEAR does not take from the reset table. -/
theorem freshState_fields (k : Straps) (s : State) :
    (freshState k s).straps = k ∧ (freshState k s).station = freshStation k ∧
      (freshState k s).line.receiver = s.line.receiver.afterReset ∧
      (freshState k s).pending = s.pending ∧ (freshState k s).ref = State.reset.ref ∧
      (freshState k s).cues = State.reset.cues ∧ (freshState k s).port = State.reset.port ∧
      (freshState k s).out = State.reset.out :=
  ⟨rfl, rfl, rfl, rfl, rfl, rfl, rfl, rfl⟩

/-- `State.reset` is the station that HARDWARE_RESET leaves with the straps of `Config.resetStraps`. -/
theorem reset_eq_freshState : freshState (latchStraps Config.resetStraps) State.reset = State.reset := by
  simp [freshState, State.reset, latchStraps, Config.resetStraps, freshStation, roleOfLevel, profileOfLevel, levelCode,
    prngSeed, Receiver.afterReset]

/-! ### The pixel clock (R71) -/

@[simp] theorem State.keyAt_stopped (s : State) : s.keyAt .stopped = false := rfl

end Sys2Proof.Machine
end

