-- ==== Sys2Proof/Tests/Slice0.lean ====
section
/-! SUPPORT. Our own checks: the well-formedness smoke tests, worked values of the spec, one step of each family on a
small state, and for each statement of Obligations.lean with hypotheses a state and operands that meet them. -/

namespace Sys2Proof.Tests

set_option Elab.async false

open Sys2Proof Sys2Proof.Machine Sys2Proof.Safety

/-! ### Well-formedness: an ill-formed term for each check, and a well-formed one -/

def loadM : LoadMsg :=
  { slot := 5#8, cueId := 9#16, inLabel := ⟨0#8, 0#8, 40#8, 0#8⟩, outLabel := ⟨0#8, 0#8, 42#8, 0#8⟩, streamer := 60#8,
    beepCount := 3#8, beepDur := 2#8, track := 2#8, pre := 15#8, post := 10#8, textLen := 3#8, text := [72#8, 69#8, 89#8] }

def replyM : ReplyMsg := { kind := .load, slot := 5#8, result := .accepted, clamped := none, digest := none }

def from5 : FrameHead := { dest := 3#4, source := 5#4, broadcast := false }

theorem test_wf_send : (Instr.send 6#8 0#8 (List.replicate 256 0#8)).wf = false ∧
    (Instr.send 6#8 0#8 (List.replicate 255 0#8)).wf = true := by decide +kernel

theorem test_wf_badRequest : (Instr.badRequest 9#8 [0#8]).wf = false ∧ (Instr.badRequest 7#8 [3#8]).wf = false ∧
    (Instr.badRequest 0x0A#8 []).wf = true ∧ (Instr.badRequest 7#8 [4#8]).wf = true := by decide

theorem test_wf_abandoned : (Instr.transactionAbandoned [0x02#8, 0#8, 1#8]).wf = false ∧
    (Instr.transactionAbandoned [0x01#8]).wf = false ∧ (Instr.transactionAbandoned [0x02#8, 0#8]).wf = true := by decide

theorem test_wf_answerTimer : (Instr.answerTimerExpiry 128#8).wf = false ∧ (Instr.answerTimerExpiry 127#8).wf = true := by
  decide

theorem test_wf_cutShort : (Instr.cutShortFrame []).wf = false ∧
    (Instr.cutShortFrame (List.replicate 560 true)).wf = false ∧ (Instr.cutShortFrame [true]).wf = true := by
  decide +kernel

theorem test_wf_load : (Instr.load from5 { loadM with textLen := 15#8 }).wf = false ∧
    (Instr.load from5 loadM).wf = true := by decide

theorem test_wf_reply : (Instr.reply from5 { replyM with result := .clamped }).wf = false ∧
    (Instr.reply from5 { replyM with kind := .digest }).wf = false ∧ (Instr.reply from5 replyM).wf = true := by decide

theorem test_wf_judgedBad : (Instr.frameJudgedBad 0x030000#24 [1#8, 2#8] 0#16).wf = false ∧
    (Instr.frameJudgedBad 0xC00000#24 [] 0#16).wf = false ∧ (Instr.frameJudgedBad 0x020000#24 [1#8, 2#8] 0#16).wf = true := by
  decide

/-! ### Worked values of the spec -/

/-- The CRC values of R42's worked cases. -/
theorem test_crc_of_zero_bytes : crc16 [0#8] = 0xE1F0#16 ∧ crc16 [0#8, 0#8] = 0x1D0F#16 ∧
    crc16 [0#8, 0#8, 0#8] = 0xCC9C#16 := by decide +kernel

/-- The drop-frame label 01:00:10;00 is count 108,192, and back (spec 01, worked conversions). -/
theorem test_drop_frame_label : labelCount .p0 1 0 10 0 = some 108192 ∧
    labelOfCount .p0 108192 = ⟨1#8, 0#8, 10#8, 0#8⟩ ∧ labelCount .p0 0 1 0 1 = none := by decide +kernel

/-- The pseudorandom register of address 0 after one step (R173). -/
theorem test_prng_first_step : prngStep 0xACE1#16 = 0xE270#16 := by decide

/-- A modular distance over midnight (R12): from the last frame of the day to frame 1 is 2 frames ahead. -/
theorem test_forward_distance_wraps : fwd 2589408 2589407 1 = 2 ∧ signedDelta 2589408 1 2589407 = -2 := by decide +kernel

/-! ### Small states -/

/-- An ACTIVE station at address 3 in room 1, LOCKED at position 1000 in PLAY. -/
def active (role : Role) : State :=
  { State.reset with
    straps := { address := 3#4, role := role, room := 1#2, profile := .p0, hold := false }
    station := { State.reset.station with state := .active, joinTimer := 0, beaconTimer := 100 }
    ref := { State.reset.ref with lock := .locked, position := 1000, history := [1, 1, 1, 1], transport := .play } }

/-- The station receiving the rest of a frame whose header it has taken. -/
def receiving (h : FrameHead) (m : Message) (s : State) : State := s.withReceiver (.taking (headerOfFrame h m))

def withLine (n : Nat) (s : State) : State := { s with ref := { s.ref with lineCounter := n } }

/-- The cue of `loadM` as stored: cue-in at frame 1200. -/
def cue : Cue :=
  { selected := true, cueId := 9#16, inLabel := loadM.inLabel, outLabel := loadM.outLabel, cueIn := 1200, cueOut := 1260,
    streamer := 60#8, beepCount := 3#8, beepDur := 2#8, track := some 2#8, pre := 15#8, post := 10#8,
    text := loadM.text, takeCount := 1, lastResult := some .recorded, circled := 1 }

/-- The entry of slot 5 for that cue, with this claim and take state. -/
def entry (claim : ClaimState) (take : TakeState) : Entry :=
  { slot := 5, key := 50, marks := marksOf .p0 cue, phase := .waiting, crossed := 0#9, stoodDown := false,
    claim := claim, claimNo := some 7#8, denyReason := none, answerTimer := 0, resent := false, take := take,
    serial := none, gateSeenOpen := false, gateCut := false }

/-- An ACTIVE booth with the cue in slot 5 and its entry. -/
def booth (claim : ClaimState) : State :=
  { active .booth with cues := State.reset.cues.set 5 (some cue), entries := [entry claim .idle] }

def reservation (claimant : Addr) (n : Byte) : Reservation :=
  { claimant := claimant, claimNo := n, room := 1#8, cueId := 9#16, f1 := 990, f2 := 1100 }

/-- An ACTIVE bank 0 recorder whose track 2 holds two reservations of station 5 under an OPEN gate. -/
def recorder : State :=
  { active .recorder0 with
    tracks := State.reset.tracks.set 2
      { named := some (reservation 5#4 7#8), table := [reservation 5#4 7#8, reservation 5#4 8#8] } }

/-- A queued message of this class. -/
def queued (cls : Nat) : TxMsg :=
  newMessage
    (if cls = 0 then .fixed 0#4 (.release { track := 2#8, claimNo := 7#8, reason := .done })
    else if cls = 1 then .fixed 5#4 (.answer { claimNo := 7#8, track := 2#8, decision := .grant })
    else if cls = 2 then .fixed 5#4 (.reply replyM) else .beacon) .internal

def withTx (q : List TxMsg) (s : State) : State := s.withQueue q

/-- A station with this message under attempt. -/
def attempting (m : TxMsg) : State :=
  { active .booth with line :=
    { (active .booth).line with queue := [{ m with underAttempt := true }], attempt := some [0x5A#8] } }

def claimM : ClaimMsg :=
  { track := 2#8, claimNo := 9#8, room := 1#8, cueId := 4#16, f1 := 1200#24, f2 := 1300#24, resend := false }

/-- The state a step answers. -/
def after : Host.Outcome State Fault Refusal → State
  | .next s => s
  | .fault _ => State.reset
  | .refused _ => State.reset

/-- The result fields of the queue's last message, where it is a REPLY. -/
def lastReply (s : State) : Option ReplyResult :=
  match s.line.queue.getLast?.map TxMsg.content with
  | some (.fixed _ (.reply r)) => some r.result
  | _ => none

/-! ### One step of each family -/

/-- R25, R33: a LOAD of an EMPTY slot 5 stores it with its cue id, and is ACCEPTED. -/
theorem test_load_stores :
    ((after (exec (.load from5 loadM) (receiving from5 (.load loadM) (active .booth)))).cueAt 5).map Cue.cueIn =
      some 1200 ∧
    lastReply { after (exec (.load from5 loadM) (receiving from5 (.load loadM) (active .recorder0))) with entries := [] } =
      some .wrongRole := by decide +kernel

/-- R31: a LOAD of a slot in the lookahead is BUSY. -/
theorem test_load_busy :
    lastReply (after (exec (.load from5 loadM) (receiving from5 (.load loadM) (booth .none)))) = some .busy := by
  decide +kernel

/-- R37, R39: CLEAR of a slot in the lookahead is BUSY; SELECT off takes the entry out. -/
theorem test_clear_busy_select_off :
    lastReply (after (exec (.clear from5 ⟨5#8, 5#8⟩) (receiving from5 (.clear ⟨5#8, 5#8⟩) (booth .none)))) = some .busy ∧
    (after (exec (.selectOff from5 ⟨5#8, 5#8⟩) (receiving from5 (.select ⟨5#8, 5#8⟩ false) (booth .none)))).entries =
      [] := by decide +kernel

/-- R130: a CLAIM ahead of the position is granted into the table; the gate stays as it was. -/
theorem test_claim_granted :
    ((after (exec (.claim from5 claimM) (receiving from5 (.claim claimM) recorder))).tracks[2]?).map
        (fun t => (t.table.length, t.named.isSome)) = some (3, true) := by decide +kernel

/-- R135: a RELEASE of the named reservation hands the gate over to the next of the same claimant, with OPEN. -/
theorem test_release_hands_over :
    ((after (exec (.release from5 { track := 2#8, claimNo := 7#8, reason := .done })
      (receiving from5 (.release { track := 2#8, claimNo := 7#8, reason := .done }) recorder))).tracks[2]?).map
        (fun t => t.named.map Reservation.claimNo) = some (some 8#8) := by decide +kernel

/-- R87: a GATE OPEN for the own room makes the light QUIET. -/
theorem test_gate_open_is_quiet :
    (after (exec (.gate from5 { track := 2#8, event := .opened, claimant := 9#8, claimNo := 1#8, room := 1#8, position := 5#24 })
      (receiving from5 (.gate { track := 2#8, event := .opened, claimant := 9#8, claimNo := 1#8, room := 1#8, position := 5#24 })
        (active .booth)))).out.light = .quiet := by decide +kernel

/-- R3, R5: the line pulse that brings the count to 525 + 4 opens a frame with the counter at 0. -/
theorem test_line_pulse_synthesizes :
    (after (exec .linePulse (withLine 528 (active .desk)))).ref.lineCounter = 0 ∧
    (after (exec .linePulse (withLine 527 (active .desk)))).ref.lineCounter = 528 := by decide +kernel

/-- R18: the tenth tick without a frame pulse brings the quiet ticks to 10; a further one leaves them there. -/
theorem test_tick_holds_at_ten :
    (after (exec .tick { active .desk with ref := { (active .desk).ref with quietTicks := 9 } })).ref.quietTicks = 10 ∧
    (after (exec .tick { active .desk with ref := { (active .desk).ref with quietTicks := 10 } })).ref.quietTicks = 10 := by
  decide +kernel

/-- R148: a header with data bit 4 flipped is repaired and counted. -/
theorem test_header_repaired :
    (after (exec (.headerReceived (headerOfFrame from5 (.reply replyM) ^^^ 0x000010#24)
      (checkByte (headerOfFrame from5 (.reply replyM)))) (active .booth))).line.hdrFixed = 1 := by decide +kernel

/-- R180, R196: the status record has 102 bytes and starts with the address. -/
theorem test_status_record : (active .booth).statusRecord.length = 102 ∧ (active .booth).statusRecord.head? = some 3#8 := by
  decide +kernel

/-! ### Witnesses: for each statement, states and operands that meet its hypotheses -/

theorem handed_receiving {h : FrameHead} {m : Message} {s : State} (hd : delivered s.straps.address h m = true)
    (ha : s.station.state = .active) : handed h m (receiving h m s) := And.intro rfl (And.intro hd ha)

/-- Every invariant holds of a station that is not right after reset, and its step answers a next state. -/
theorem witness_StepKeeps :
    (Sound { active .booth with pending := [.tick] } ∧ ∃ t, step { active .booth with pending := [.tick] } = .next t) ∧
    Sound { active .recorder1 with pending := [.linePulse] } ∧
      ∃ t, step { active .recorder1 with pending := [.linePulse] } = .next t := by
  refine ⟨⟨⟨?_, ?_, ?_, ?_, ?_, ?_, ?_, ?_, ?_, ?_, ?_, ?_, ?_, ?_⟩, ⟨_, rfl⟩⟩,
    ⟨?_, ?_, ?_, ?_, ?_, ?_, ?_, ?_, ?_, ?_, ?_, ?_, ?_, ?_⟩, ⟨_, rfl⟩⟩ <;> decide +kernel

theorem witness_StepTakesTheFrontCommand : State.reset.pending = [] ∧ step State.reset = .next State.reset := ⟨rfl, rfl⟩

theorem witness_PayloadsDecodeToTheirMessage : (Message.load loadM).wf = true ∧
    (Message.reply { replyM with result := .clamped, clamped := some 1#8 }).wf = true ∧
    (Message.beacon (active .booth).beaconNow).wf = true := by decide

theorem witness_HeaderCheck : (0x012345#24).extractLsb' 22 2 = 0#2 ∧ (0x3FFFFF#24).extractLsb' 22 2 = 0#2 := by decide

theorem witness_Labels :
    2589407 < dayOf .p0 ∧ countOfLabel .p0 ⟨23#8, 59#8, 59#8, 29#8⟩ = some 2589407 ∧ Profile.p1 ≠ .p0 ∧
    2159999 < dayOf .p1 ∧ labelCount .p0 0 10 0 0 = some 17982 ∧ labelCount .p0 0 10 59 29 = some 19781 ∧
    labelCount .p0 0 1 0 2 = some 1800 ∧ labelCount .p0 0 1 59 29 = some 3597 := by decide +kernel

/-- Bits of a word on the way, for a word that is valid (00:00:00;00 in P0) and for one that is not. -/
theorem witness_PositionWord :
    (withLine 21 State.reset).ref.shiftCount = 0 ∧ (withLine 21 State.reset).ref.shiftBits = 0#32 ∧
    (withLine 1 State.reset).wordWindow = true ∧ (withLine 21 State.reset).wordWindow = true ∧
    judgeWord .p0 0x0C000000#32 = some 0 ∧ judgeWord .p0 0xFFFFFFFF#32 = none ∧
    ({ withLine 21 State.reset with
      pending := (List.range 32).map (fun i => Instr.positionBit ((0x0C000000#32).getLsbD i)) ++ [Instr.tick] }).pending =
      (List.range 32).map (fun i => Instr.positionBit ((0x0C000000#32).getLsbD i)) ++ [Instr.tick] := by decide +kernel

/-- READ at the last index of each selector and at the first beyond it, and at a selector that is none. -/
theorem witness_ReadAnswers : (booth .none).station.peers.length = 16 ∧ (booth .none).tracks.length = 8 ∧
    ([(0, 127), (0, 128), (1, 0), (1, 3), (1, 4), (2, 0), (2, 31), (2, 32), (3, 15), (3, 16), (4, 15), (4, 16), (5, 0)].map
      fun x => ((booth .none).readAnswer (byte x.1) (byte x.2)).status) =
      [.ok, .badIndex, .ok, .empty, .badIndex, .empty, .empty, .badIndex, .ok, .badIndex, .empty, .empty, .badRequest] ∧
    (recorder.readAnswer 4#8 2#8).body.length = 29 := by decide +kernel

/-- A RECORDER and a DESK with the tables of the other roles empty. -/
theorem witness_ReadOfAbsentTables : ∀ s ∈ [recorder, active .desk], RoleInv s ∧ s.straps.role ≠ .booth ∧
    (isRecorder s.straps.role = true ∨ isRecorder s.straps.role = false) := by decide +kernel

/-- R69, R111, R143, R182: from a table absent in the latched role no index is BAD_INDEX, and from a present one 255 is. -/
theorem test_read_of_an_absent_table :
    [recorder, active .desk, booth .none].map (fun s => [0#8, 1#8, 2#8, 4#8].map (fun sel => (s.readAnswer sel 255#8).status)) =
      [[.ok, .empty, .empty, .badIndex], [.ok, .empty, .badIndex, .empty], [.badIndex, .badIndex, .badIndex, .empty]] ∧
    (recorder.readAnswer 0#8 255#8).body = List.replicate 44 0#8 := by decide +kernel

def withInbox : State :=
  { active .booth with line := { (active .booth).line with inbox := [{ source := 5#4, reply := replyM }] } }

theorem witness_PopInbox : State.reset.line.inbox = [] ∧ withInbox.line.inbox = { source := 5#4, reply := replyM } :: [] :=
  ⟨rfl, rfl⟩

/-- A broadcast kind, the least of the six, and an addressed one, the greatest, to the highest address, with 7 messages
queued. -/
theorem witness_SendQueues : ∀ m ∈ [Message.abort .all, .digest ⟨0#8, 1#8⟩], m.wf = true ∧
    6 ≤ (kindCode m).toNat ∧ (kindCode m).toNat ≤ 11 ∧
    (withTx (List.replicate 7 (queued 2)) (active .desk)).station.state = .active ∧
    (withTx (List.replicate 7 (queued 2)) (active .desk)).line.queue.length < 8 ∧
    (isBroadcastKind m = true ∨ ((15#8).toNat ≤ 15 ∧
      15#8 ≠ ((withTx (List.replicate 7 (queued 2)) (active .desk)).straps.address.zeroExtend 8 : Byte))) := by
  decide +kernel

/-- A kind below and above the six, a short payload, and a code of none. -/
theorem witness_SendIsRefused : sendLength 5#8 [] = none ∧ sendLength 12#8 [] = none ∧
    (sendLength 6#8 [] = some 1 ∧ ([] : List Byte).length ≠ 1) ∧
    (sendLength 6#8 [9#8] = some [9#8].length ∧ messageOf ((6#8).extractLsb' 0 5) [9#8] = none) := by decide +kernel

def digestBytes : List Byte := [0#8, 1#8]

/-- A DIGEST to two bad destinations, from a station that is not ACTIVE, and into a full queue that it displaces from and
one that it does not. -/
theorem witness_SendIsJudged :
    (sendLength 11#8 digestBytes = some digestBytes.length ∧
      messageOf ((11#8).extractLsb' 0 5) digestBytes = some (.digest ⟨0#8, 1#8⟩)) ∧
    (isBroadcastKind (.digest ⟨0#8, 1#8⟩) = false ∧ 15 < (16#8).toNat ∧
      3#8 = ((active .desk).straps.address.zeroExtend 8 : Byte)) ∧
    ((5#8).toNat ≤ 15 ∧ 5#8 ≠ (State.reset.straps.address.zeroExtend 8 : Byte) ∧ State.reset.station.state ≠ .active) ∧
    ∀ s ∈ [withTx (List.replicate 7 (queued 2) ++ [queued 3]) (active .desk), withTx (List.replicate 8 (queued 0)) (active .desk)],
      5#8 ≠ (s.straps.address.zeroExtend 8 : Byte) ∧ s.station.state = .active ∧ 8 ≤ s.line.queue.length ∧
        s.line.queue.getLast?.isSome = true := by decide +kernel

def held : State := { State.reset with station := { State.reset.station with state := .held, joinTimer := 0 } }

theorem witness_HoldSweepAndPortEnds : held.station.state = .held ∧ State.reset.station.state ≠ .held ∧
    1 < (2#8).toNat ∧ 1 < (255#8).toNat := by decide

/-- A recorder with an open gate, and a booth with an open claim. -/
theorem witness_EngineReset : (TrackInv recorder ∧ LookInv recorder ∧ LineInv recorder ∧
      recorder.tracks.any (fun x => x.named.isSome) = true) ∧
    TrackInv (booth .granted) ∧ LookInv (booth .granted) ∧ LineInv (booth .granted) ∧
    releasesOf .reset (booth .granted).entries (booth .granted) =
      [.release { track := 2#8, claimNo := 7#8, reason := .reset }] :=
  ⟨by decide +kernel, by decide +kernel, by decide +kernel, by decide +kernel, by decide +kernel⟩

/-- R70, R144: an ENGINE reset gives RELEASE RESET for the open claim of a booth, and GATE CUT RESET for the open gate of a
recorder. -/
theorem test_engine_reset_gives_back :
    (after (exec .resetEngine (booth .granted))).line.queue.map TxMsg.content =
      [.fixed 0#4 (.release { track := 2#8, claimNo := 7#8, reason := .reset })] ∧
    (after (exec .resetEngine recorder)).line.queue.map TxMsg.content =
      [.fixed 0#4 (.gate
        { track := 2#8, event := .cut .reset, claimant := 5#8, claimNo := 7#8, room := 1#8, position := 1000#24 })] := by
  decide +kernel

theorem witness_PulsesInsideTheFrame :
    (withLine 527 State.reset).ref.lineCounter + 1 < linesOf (withLine 527 State.reset).straps.profile + 4 ∧
    linesOf .p0 ≤ (withLine 524 State.reset).ref.lineCounter + 1 ∧
    (withLine 520 State.reset).ref.lineCounter < linesOf (withLine 520 State.reset).straps.profile - 4 ∧
    (withLine 520 State.reset).ref.lock = .unlocked ∧
    (withLine 520 (active .desk)).ref.lineCounter < linesOf (withLine 520 (active .desk)).straps.profile - 4 ∧
    (withLine 520 (active .desk)).ref.lock ≠ .unlocked := by decide

def withShift (n : Nat) (s : State) : State := { s with ref := { s.ref with shiftCount := n } }

/-- An accepted pulse at the first count of its window, with a partial word of 1 and of 31 bits. -/
theorem witness_AcceptedFramePulse : ∀ s ∈ [withShift 1 (withLine 521 State.reset), withShift 31 (withLine 521 (active .booth))],
    linesOf s.straps.profile - 4 ≤ s.ref.lineCounter ∧ 1 ≤ s.ref.shiftCount ∧ s.ref.shiftCount ≤ 31 := by decide

theorem witness_Unlocked : RefInv (withLine 521 State.reset) ∧ (withLine 521 State.reset).ref.lock = .unlocked ∧
    linesOf .p0 - 4 ≤ (withLine 521 State.reset).ref.lineCounter ∧ RefInv (withLine 520 State.reset) ∧
    (withLine 520 State.reset).ref.lineCounter < linesOf .p0 - 4 := by decide +kernel

/-- The station one line pulse before a synthesized boundary, after this many of them in a row, with this word. -/
def synthDue (n : Nat) (word : Option Nat) : State :=
  { active .booth with ref := { (active .booth).ref with lineCounter := 528, synthCount := n, frameWord := word } }

theorem witness_SynthesizedBoundary :
    ((withLine 528 State.reset).ref.lineCounter + 1 = linesOf (withLine 528 State.reset).straps.profile + 4 ∧
      (withLine 528 State.reset).ref.lock = .unlocked) ∧
    ((synthDue 2 none).ref.lineCounter + 1 = linesOf (synthDue 2 none).straps.profile + 4 ∧
      (synthDue 2 none).ref.lock ≠ .unlocked ∧ 2 ≤ (synthDue 2 none).ref.synthCount) ∧
    ((synthDue 1 (some 1001)).ref.lineCounter + 1 = linesOf (synthDue 1 (some 1001)).straps.profile + 4 ∧
      (synthDue 1 (some 1001)).ref.lock = .locked ∧ (synthDue 1 (some 1001)).ref.synthCount < 2 ∧
      (synthDue 1 (some 1001)).ref.frameWord = some 1001) := by decide

/-- The 31st bit, the 32nd at line counters 1 and 21, in the window, and 0 and 22, outside it, and a bit after it; with a
valid word and a bad one. -/
theorem witness_PositionBit : (withShift 30 State.reset).ref.shiftCount < 31 ∧
    (∀ n ∈ [1, 21], (withShift 31 (withLine n State.reset)).ref.shiftCount = 31 ∧
      1 ≤ (withShift 31 (withLine n State.reset)).ref.lineCounter ∧
      (withShift 31 (withLine n State.reset)).ref.lineCounter < firstActiveOf State.reset.straps.profile) ∧
    (∀ n ∈ [0, 22], (withShift 31 (withLine n State.reset)).ref.shiftCount = 31 ∧
      ((withShift 31 (withLine n State.reset)).ref.lineCounter = 0 ∨
        firstActiveOf State.reset.straps.profile ≤ (withShift 31 (withLine n State.reset)).ref.lineCounter)) ∧
    judgeWord .p0 0x0C000000#32 = some 0 ∧ judgeWord .p0 0x8C000000#32 = none ∧
    32 ≤ (withShift 32 State.reset).ref.shiftCount := by decide +kernel

def lossDue : State := { recorder with ref := { recorder.ref with quietTicks := 10 } }

theorem witness_LossByTime : (TrackInv lossDue ∧ LookInv lossDue ∧ LineInv lossDue ∧ lossDue.ref.quietTicks = 10 ∧
      lossDue.ref.lock ≠ .unlocked ∧ (cutsOf .refLost (fun _ => true) lossDue).length = 1) ∧
    (TrackInv (booth .granted) ∧ ((booth .granted).entryOf 5).map Entry.take = some .idle) ∧
    TrackInv recorder ∧ recorder.ref.quietTicks ≠ 10 := by decide +kernel

def joinDue : State := { State.reset with station := { State.reset.station with joinTimer := 0 } }

def beaconDue (q : List TxMsg) : State :=
  withTx q { active .desk with station := { (active .desk).station with beaconTimer := 0 } }

/-- The timers run out, with the queue at 7, at 8 and with a BEACON in it; and timers that have not. -/
theorem witness_TimerExpiries :
    (joinDue.station.state = .joining ∧ joinDue.station.joinTimer = 0 ∧ joinDue.line.queue = []) ∧
    (∀ s ∈ [beaconDue (List.replicate 7 (queued 2)), beaconDue (List.replicate 8 (queued 2)), beaconDue [queued 3]],
      s.station.state = .active ∧ s.station.beaconTimer = 0) ∧
    ((beaconDue (List.replicate 7 (queued 2))).line.queue.any TxMsg.isBeacon = false ∧
      (beaconDue (List.replicate 7 (queued 2))).line.queue.length < 8) ∧
    ((beaconDue (List.replicate 8 (queued 2))).line.queue.any TxMsg.isBeacon = false ∧
      8 ≤ (beaconDue (List.replicate 8 (queued 2))).line.queue.length) ∧
    (beaconDue [queued 3]).line.queue.any TxMsg.isBeacon = true ∧
    ¬ (State.reset.station.state = .joining ∧ State.reset.station.joinTimer = 0) ∧
    ¬ ((active .desk).station.state = .active ∧ (active .desk).station.beaconTimer = 0) := by decide +kernel

def resentBooth : State := { booth .pending with entries := [{ entry .pending .idle with resent := true }] }

theorem witness_AnswerTimerExpiry :
    ((booth .pending).entryOf (5#8).toNat = some (entry .pending .idle) ∧ (booth .pending).cueAt (5#8).toNat = some cue ∧
      cue.track = some 2#8 ∧ (entry .pending .idle).claimNo = some 7#8 ∧ (entry .pending .idle).claim = .pending ∧
      (entry .pending .idle).answerTimer = 0 ∧ (entry .pending .idle).resent = false) ∧
    resentBooth.entryOf (5#8).toNat = some { entry .pending .idle with resent := true } ∧
    ((booth .granted).entryOf (5#8).toNat).all (fun e => decide (e.claim ≠ .pending ∨ e.answerTimer ≠ 0)) = true := by
  decide +kernel

def withPeer (ticks : Nat) : State :=
  { recorder with station := { recorder.station with
      peers := recorder.station.peers.set 5 { present := true, info := none, ticks := ticks } } }

/-- A peer at the tick count of the loss and one below it. -/
theorem witness_PeerLoss :
    ((withPeer 200).peerAt 5#4 = some { present := true, info := none, ticks := 200 } ∧ TrackInv (withPeer 200) ∧
      BookingInv (withPeer 200) ∧ LineInv (withPeer 200) ∧
      (cutsOf .peerLost (fun r => r.claimant == 5#4) (withPeer 200)).length = 1) ∧
    ((withPeer 199).peerAt 5#4 = some { present := true, info := none, ticks := 199 } ∧ TrackInv (withPeer 199)) := by
  decide +kernel

/-- A station whose attempt with an ABORT has begun. -/
def ownFrame : State :=
  { active .booth with line := { (active .booth).line with
      attempt := some (buildFrame 3#4 0#4 (.abort .all)), queue := [{ newMessage (.fixed 0#4 (.abort .all)) .panel with underAttempt := true }]
      receiver := .incoming (some (headerFor 3#4 0#4 (.abort .all))), idle := none } }

/-- The header of the own attempt, a bad one, one of station 5, and a clash at a HELD station of address 0. -/
theorem witness_HeaderReceived :
    (ownFrame.line.receiver = .incoming (some (headerFor 3#4 0#4 (.abort .all))) ∧
      (judgeHeader (headerFor 3#4 0#4 (.abort .all)) (checkByte (headerFor 3#4 0#4 (.abort .all)))).good =
        some (headerFor 3#4 0#4 (.abort .all)) ∧
      headerSource (headerFor 3#4 0#4 (.abort .all)) = ownFrame.straps.address) ∧
    (judgeHeader 0#24 0xFF#8).good = none ∧
    ((judgeHeader (headerOfFrame from5 (.reply replyM)) (checkByte (headerOfFrame from5 (.reply replyM)))).good =
        some (headerOfFrame from5 (.reply replyM)) ∧
      headerSource (headerOfFrame from5 (.reply replyM)) ≠ held.straps.address) ∧
    (held.line.receiver ≠ .incoming (some (headerFor 0#4 0#4 (.abort .all))) ∧
      judgeHeader (headerFor 0#4 0#4 (.abort .all)) (checkByte (headerFor 0#4 0#4 (.abort .all))) =
        { good := some (headerFor 0#4 0#4 (.abort .all)), fixed := false } ∧
      headerSource (headerFor 0#4 0#4 (.abort .all)) = held.straps.address ∧ held.station.state = .held) := by
  decide +kernel

/-- R155, R176: after a collision the header that the station drove itself is no clash, by its header row, by a frame row
without one and by cut-short bits; another header with the own address is one, and mutes. -/
theorem test_own_header_outlives_a_collision :
    let s := after (exec .collision ownFrame)
    let own := headerFor 3#4 0#4 (.abort .all)
    let other := headerFor 3#4 9#4 (.reply replyM)
    s.line.attempt = none ∧
    [exec (.headerReceived own (checkByte own)), exec (.frameJudgedBad own [] 0#16),
        exec (.cutShortFrame (frameBits (frameOf own []))), exec (.headerReceived other (checkByte other))].map
      (fun act => ((after (act s)).hasFlag .addrClash, (after (act s)).station.state)) =
        [(false, .active), (false, .active), (false, .active), (true, .muted)] := by decide +kernel

theorem witness_AddressClash : ∀ s ∈ [active .booth, { active .recorder0 with station := State.reset.station }],
    s.line.receiver ≠ .incoming (some (headerFor 3#4 0#4 (.abort .all))) ∧
    (judgeHeader (headerFor 3#4 0#4 (.abort .all)) (checkByte (headerFor 3#4 0#4 (.abort .all)))).good =
      some (headerFor 3#4 0#4 (.abort .all)) ∧
    headerSource (headerFor 3#4 0#4 (.abort .all)) = s.straps.address ∧
    (s.station.state = .joining ∨ s.station.state = .active) := by decide +kernel

/-- The bits of a frame of 3 payload bytes: 80 in all. -/
def bits3 : List Bool := frameBits (frameOf (headerOfFrame from5 (.reply replyM)) [1#8, 2#8, 3#8])

/-- A busy period cut before and after each place where its judgement changes. -/
theorem witness_CutShort : (bits3.take 7).length < 8 ∧ byteAt 0 (List.replicate 60 true) ≠ 0x5A#8 ∧
    byteAt 0 (bits3.take 8) = 0x5A#8 ∧ byteAt 0 (bits3.take 39) = 0x5A#8 ∧ (bits3.take 39).length < 40 ∧
    40 ≤ (bits3.take 40).length ∧ (bits3.take 79).length < 56 + 8 * headerLen (headerOfFrame from5 (.reply replyM)) ∧
    (receiving from5 (.reply replyM) (active .booth)).line.receiver = .taking (headerOfFrame from5 (.reply replyM)) ∧
    ((active .booth).withReceiver .ignoring).line.receiver = .ignoring := by decide +kernel

/-- A wrong CRC, good CRCs over a payload that is none of the kind's and over a wrong class, and a good frame. -/
theorem witness_BadFrames :
    (receiving from5 (.reply replyM) (active .booth)).line.receiver = .taking (headerOfFrame from5 (.reply replyM)) ∧
    frameCrc (headerOfFrame from5 (.reply replyM)) [1#8] ≠ 0#16 ∧
    messageOf (headerKind (headerOfFrame from5 (.reply replyM))) [1#8] = none ∧
    classOfCode (headerKind (headerBits 3#4 5#4 12#5 1#2 false 3#6)) ≠
      some (headerClass (headerBits 3#4 5#4 12#5 1#2 false 3#6)) ∧
    judgeFrame (headerOfFrame from5 (.reply replyM)) (payloadOf (.reply replyM))
      (frameCrc (headerOfFrame from5 (.reply replyM)) (payloadOf (.reply replyM))) = .good (.reply replyM) := by
  decide +kernel

/-- A frame for another station, one at a HELD station and one for a role without an owner. -/
theorem witness_Unowned :
    (headerTaken { from5 with dest := 9#4 } (.reply replyM) (receiving { from5 with dest := 9#4 } (.reply replyM) (active .booth)) ∧
      (delivered 3#4 { from5 with dest := 9#4 } (.reply replyM) && handedIn .active (.reply replyM) &&
        owned .booth false (.reply replyM)) = false) ∧
    (headerTaken from5 (.claim claimM) (receiving from5 (.claim claimM) held) ∧
      (delivered held.straps.address from5 (.claim claimM) && handedIn held.station.state (.claim claimM) &&
        owned held.straps.role false (.claim claimM)) = false) ∧
    (headerTaken from5 (.claim claimM) (receiving from5 (.claim claimM) (active .desk)) ∧
      (delivered 3#4 from5 (.claim claimM) && handedIn .active (.claim claimM) && owned .desk false (.claim claimM)) = false) :=
  ⟨⟨rfl, by decide⟩, ⟨rfl, by decide⟩, rfl, by decide⟩

def abandoned : State := State.reset.withReceiver (.abandoned (some (headerOfFrame from5 (.reply replyM))))

theorem witness_WholeFrame : State.reset.line.receiver ≠ .abandoned none ∧
    State.reset.line.receiver ≠ .abandoned (some (headerOfFrame from5 (.reply replyM))) ∧
    State.reset.line.receiver ≠ .taking (headerOfFrame from5 (.reply replyM)) ∧
    abandoned.line.receiver = .abandoned (some (headerOfFrame from5 (.reply replyM))) ∧
    (State.reset.withReceiver (.abandoned none)).line.receiver = .abandoned none := by decide +kernel

def noteM : TakeNoteMsg :=
  { slot := 5#8, cueId := 9#16, take := 1#8, serial := 1#16, result := .recorded, offSpeed := false, start := 5#24,
    stop := 9#24 }

theorem witness_BeaconReplyTakeNote :
    headerTaken from5 (.beacon (active .booth).beaconNow) (receiving from5 (.beacon (active .booth).beaconNow) State.reset) ∧
    from5.source ≠ State.reset.straps.address ∧
    handed from5 (.reply replyM) (receiving from5 (.reply replyM) (active .booth)) ∧
    handed from5 (.takeNote noteM) (receiving from5 (.takeNote noteM) (active .desk)) :=
  ⟨rfl, by decide, handed_receiving (by decide) rfl, handed_receiving (by decide) rfl⟩

/-- A claim of the own bank and one of the other. -/
theorem witness_Claim : handed from5 (.claim claimM) (receiving from5 (.claim claimM) recorder) ∧
    isRecorder recorder.straps.role = true ∧ TrackInv (receiving from5 (.claim claimM) recorder) ∧
    ownTrack .recorder0 8#8 = none ∧ ownTrack .recorder0 7#8 = some 7 ∧ ownTrack .recorder0 2#8 = some 2 ∧
    recorder.tracks[2]?.isSome = true :=
  ⟨handed_receiving (by decide) rfl, rfl, by decide +kernel, by decide, by decide, by decide, by decide +kernel⟩

def releaseM (n : Byte) : ReleaseMsg := { track := 2#8, claimNo := n, reason := .done }

/-- A release of the named reservation with another of its claimant behind it and without, of one not named, and of none. -/
theorem witness_Release : handed from5 (.release (releaseM 7#8)) (receiving from5 (.release (releaseM 7#8)) recorder) ∧
    TrackInv (receiving from5 (.release (releaseM 7#8)) recorder) ∧
    coveringReservation 2589408 1000 [reservation 5#4 8#8] = some (reservation 5#4 8#8) ∧
    coveringReservation 2589408 1000 [] = none ∧
    (some (reservation 5#4 7#8)).all (fun r => !(r.claimant == 5#4 && r.claimNo == 8#8)) = true ∧
    [reservation 5#4 7#8].filter (fun r => !(r.claimant == 5#4 && r.claimNo == 9#8)) = [reservation 5#4 7#8] :=
  ⟨handed_receiving (by decide) rfl, by decide +kernel, by decide +kernel, by decide, by decide, by decide⟩

theorem witness_Abort : handed from5 (.abort (.room 1#2)) (receiving from5 (.abort (.room 1#2)) (booth .granted)) ∧
    (booth .granted).abortMine (.room 1#2) = true ∧ (booth .granted).abortMine (.room 2#2) = false ∧
    (LookInv (receiving from5 (.abort (.room 1#2)) (booth .granted)) ∧
      LineInv (receiving from5 (.abort (.room 1#2)) (booth .granted))) ∧
    handed from5 (.abort .all) (receiving from5 (.abort .all) recorder) ∧
    TrackInv (receiving from5 (.abort .all) recorder) ∧
    (recorder.tracks[2]?).bind Track.named = some (reservation 5#4 7#8) ∧ abortNames .all (reservation 5#4 7#8).room = true :=
  ⟨handed_receiving (by decide) rfl, by decide, by decide, by decide +kernel, handed_receiving (by decide) rfl,
    by decide +kernel, by decide, by decide⟩

/-- R138: the gate of a recorder closes with ABORT where nothing else covers. -/
theorem test_abort_closes_the_gate :
    (after (exec (.abort from5 .all) (receiving from5 (.abort .all) recorder))).line.queue.map TxMsg.content =
      [.fixed 0#4 (.gate
        { track := 2#8, event := .closed .abort, claimant := 5#8, claimNo := 7#8, room := 1#8
          position := 1000#24 })] := by decide +kernel

def answerM (d : Decision) : AnswerMsg := { claimNo := 7#8, track := 2#8, decision := d }

theorem witness_Answer : handed from5 (.answer (answerM .grant)) (receiving from5 (.answer (answerM .grant)) (booth .pending)) ∧
    (∀ c ∈ [ClaimState.pending, .granted, .released, .denied, .noRecorder],
      matchedEntry 2#8 7#8 (booth c) = some (entry c .idle)) ∧
    matchedEntry 2#8 8#8 (booth .pending) = none ∧
    ((entry .pending .idle).isCrossed .punchIn || (entry .pending .idle).take == .late) = false ∧
    ((entry .pending .late).isCrossed .punchIn || (entry .pending .late).take == .late) = true ∧
    (booth .pending).line.queue.length < 8 ∧ denyReasonOf .denyFull = some .full :=
  ⟨handed_receiving (by decide) rfl, by decide +kernel, by decide +kernel, by decide, by decide, by decide, rfl⟩

def gateM (ev : GateEvent) (track claimant : Byte) : GateMsg :=
  { track := track, event := ev, claimant := claimant, claimNo := 7#8, room := 1#8, position := 1000#24 }

theorem witness_Gate : handed from5 (.gate (gateM .opened 2#8 3#8)) (receiving from5 (.gate (gateM .opened 2#8 3#8)) (booth .granted)) ∧
    (gateM .opened 15#8 3#8).track.toNat < 16 ∧
    (gateM .opened 2#8 3#8).room = ((booth .granted).straps.room.zeroExtend 8 : Byte) ∧
    (booth .granted).out.gateView.length < 16 ∧ (gateM (.cut .transport) 2#8 3#8).event ≠ .opened ∧
    (gateM .opened 2#8 4#8).claimant ≠ ((booth .granted).straps.address.zeroExtend 8 : Byte) ∧
    matchedEntry 2#8 7#8 (booth .granted) = some (entry .granted .idle) :=
  ⟨handed_receiving (by decide) rfl, by decide, by decide, by decide, by decide, by decide, by decide +kernel⟩

/-- A LOAD stored over nothing, over a slot of its cue id and of another, and one refused at the first slot number beyond
the table. -/
theorem witness_Load : handed from5 (.load loadM) (receiving from5 (.load loadM) (active .booth)) ∧
    (active .booth).straps.role = .booth ∧ from5.broadcast = false ∧ (active .booth).inLookahead 5 = false ∧
    fwd 2589408 1200 1260 = 60 ∧ (booth .none).cueAt 5 = some cue ∧ cue.cueId = loadM.cueId ∧
    127 < ({ loadM with slot := 128#8 } : LoadMsg).slot.toNat :=
  ⟨handed_receiving (by decide) rfl, rfl, rfl, by decide, by decide +kernel, by decide +kernel, rfl, by decide⟩

/-- Ranges refused, touching the one entry at either end, and missing it. -/
theorem witness_ClearAndSelect :
    handed from5 (.clear ⟨5#8, 5#8⟩) (receiving from5 (.clear ⟨5#8, 5#8⟩) (booth .none)) ∧
    handed from5 (.select ⟨5#8, 5#8⟩ true) (receiving from5 (.select ⟨5#8, 5#8⟩ true) (booth .none)) ∧
    handed from5 (.select ⟨0#8, 255#8⟩ false) (receiving from5 (.select ⟨0#8, 255#8⟩ false) (booth .none)) ∧
    (booth .none).cues.length = 128 ∧ min (127#8).toNat 127 < (128#8).toNat ∧ (127#8).toNat ≤ min (255#8).toNat 127 ∧
    (booth .none).entries.any (fun e => decide (5 ≤ e.slot ∧ e.slot ≤ 5)) = true ∧
    (booth .none).entries.any (fun e => decide (6 ≤ e.slot ∧ e.slot ≤ 127)) = false :=
  ⟨handed_receiving (by decide) rfl, handed_receiving (by decide) rfl, handed_receiving (by decide) rfl, by decide +kernel,
    by decide, by decide, by decide, by decide⟩

def record (result : TakeResult) : LogRecord :=
  { serial := 1#16, slot := 5, cueId := 9#16, take := 1, result := result, offSpeed := false, start := 1185,
    stop := none, circled := false }

def markM : MarkMsg := { slot := 5#8, take := 1#8, circle := true }

/-- A booth whose log holds the one record of slot 5's take 1 with this result. -/
def withRecord (result : TakeResult) : State :=
  { booth .none with takes := { (booth .none).takes with log := [record result] } }

theorem witness_DigestAndMark :
    handed from5 (.digest ⟨127#8, 255#8⟩) (receiving from5 (.digest ⟨127#8, 255#8⟩) (booth .none)) ∧
    handed from5 (.mark markM) (receiving from5 (.mark markM) (withRecord .recorded)) ∧
    (∀ result ∈ [TakeResult.inFlight, .recorded],
      ((withRecord result).takes.log.filter (fun r => r.slot == markM.slot.toNat && r.take == markM.take.toNat)).getLast? =
        some (record result)) ∧
    (booth .none).takes.log.filter (fun r => r.slot == markM.slot.toNat && r.take == markM.take.toNat) = [] ∧
    (withRecord .recorded).cueAt markM.slot.toNat = some cue ∧ (active .booth).cueAt markM.slot.toNat = none :=
  ⟨handed_receiving (by decide) rfl, handed_receiving (by decide) rfl, by decide, rfl, by decide +kernel,
    by decide +kernel⟩

theorem witness_TableMessagesElsewhere : (active .desk).straps.role ≠ .booth ∧ recorder.straps.role ≠ .booth ∧
    handed from5 (.load loadM) (receiving from5 (.load loadM) (active .desk)) ∧
    handed from5 (.clear ⟨5#8, 5#8⟩) (receiving from5 (.clear ⟨5#8, 5#8⟩) (active .desk)) ∧
    handed from5 (.select ⟨5#8, 5#8⟩ true) (receiving from5 (.select ⟨5#8, 5#8⟩ true) recorder) ∧
    handed from5 (.select ⟨5#8, 5#8⟩ false) (receiving from5 (.select ⟨5#8, 5#8⟩ false) recorder) ∧
    handed from5 (.digest ⟨0#8, 1#8⟩) (receiving from5 (.digest ⟨0#8, 1#8⟩) recorder) ∧
    handed from5 (.mark markM) (receiving from5 (.mark markM) (active .desk)) :=
  ⟨by decide, by decide, handed_receiving (by decide) rfl, handed_receiving (by decide) rfl,
    handed_receiving (by decide) rfl, handed_receiving (by decide) rfl, handed_receiving (by decide) rfl,
    handed_receiving (by decide) rfl⟩

theorem witness_QueuedMessages : [queued 0, queued 1, queued 1, queued 3].Pairwise (fun a b => a.cls ≤ b.cls) := by
  decide

/-- The gap of a class 0 message at address 3 is 23 bit times: after 22 quiet ones and one more, and one short of it. -/
def quietFor (idle : Option Nat) (s : State) : State := { s with line := { s.line with idle := idle } }

theorem witness_AttemptStart : (withTx [queued 0] (active .booth)).line.queue = queued 0 :: [] ∧
    (active .booth).station.state = .active ∧ (quietFor (some 22) (active .booth)).line.attempt = none ∧
    (∀ h, (quietFor (some 22) (active .booth)).line.receiver ≠ .taking h) ∧
    (quietFor (some 22) (active .booth)).line.idle = some 22 ∧
    20 * ((queued 0).cls + 1) + (active .booth).straps.address.toNat + (queued 0).extra ≤ 22 + 1 ∧
    (quietFor none (active .booth)).line.idle = none ∧ State.reset.station.state ≠ .active ∧
    ownFrame.line.attempt ≠ none ∧
    (receiving from5 (.reply replyM) (active .booth)).line.receiver = .taking (headerOfFrame from5 (.reply replyM)) ∧
    ((withTx [queued 0] (active .booth)).line.queue.head?.all fun m =>
      decide (22 < 20 * (m.cls + 1) + (active .booth).straps.address.toNat + m.extra)) = true := by
  refine ⟨rfl, rfl, rfl, ?_, rfl, by decide, rfl, by decide, by decide, rfl, by decide⟩
  intro h hh
  cases hh

/-- R145, R154: a frame on the line loses the idle count; the 23rd quiet bit time after it lets the attempt begin, and the
22nd does not. -/
theorem test_attempt_waits_for_its_gap :
    (after (exec (.attemptStart { quiet := 22, busy := false }) (quietFor none (withTx [queued 0] (active .booth))))).line.attempt = none ∧
    (after (exec (.attemptStart { quiet := 22, busy := false }) (quietFor none (withTx [queued 0] (active .booth))))).line.idle = some 22 ∧
    (after (exec (.attemptStart { quiet := 1, busy := false }) (quietFor (some 22) (withTx [queued 0] (active .booth))))).line.attempt.isSome = true ∧
    (after (exec (.headerReceived (headerOfFrame from5 (.reply replyM)) (checkByte (headerOfFrame from5 (.reply replyM))))
      (quietFor (some 22) (active .booth)))).line.idle = none := by decide +kernel

theorem witness_Collision : (∀ n ∈ [4, 5],
      (attempting { queued 0 with attempts := n }).line.attempt = some [0x5A#8] ∧
      (attempting { queued 0 with attempts := n }).line.queue.find? (fun x => x.underAttempt) =
        some { queued 0 with attempts := n, underAttempt := true }) ∧ State.reset.line.attempt = none := by decide +kernel

theorem witness_FrameSent :
    (attempting (queued 3)).line.queue.find? (fun x => x.underAttempt) = some { queued 3 with underAttempt := true } ∧
    (queued 3).content = .beacon ∧ (queued 0).content = .fixed 0#4 (.release (releaseM 7#8)) ∧
    (queued 0).origin = .internal ∧ (newMessage (.fixed 0#4 (.abort .all)) .panel).origin = .panel ∧
    (attempting (newMessage (.fixed 0#4 (.abort .all)) .panel)).line.queue.find? (fun x => x.underAttempt) =
      some { newMessage (.fixed 0#4 (.abort .all)) .panel with underAttempt := true } ∧
    (attempting (queued 0)).station.state = .active ∧ from5.source ≠ (attempting (queued 0)).straps.address := by
  decide +kernel

/-- A booth whose log holds two takes, 1 and 2, before take 3 starts. -/
def twoTakes : State :=
  { booth .none with takes :=
    { serial := 2#16, log := [record .recorded, { record .recorded with serial := 2#16 }], journal := [], deskLog := [] } }

/-- The same booth when serial 1 is to be issued again. -/
def reissue : State := { twoTakes with takes := { twoTakes.takes with serial := 0#16, log := [record .recorded] } }

theorem witness_Unwind : ∀ s ∈ [twoTakes, reissue], s.cueAt 5 = some cue ∧ s.takes.log.length ≤ 32 ∧
    (s.takes.log.filter (fun r => r.serial != s.takes.serial + 1#16)).Pairwise
      (fun a b => ageOf (s.takes.serial + 1#16) b.serial < ageOf (s.takes.serial + 1#16) a.serial) ∧
    (∀ j ∈ s.takes.journal, j.serial ≠ s.takes.serial + 1#16) := by decide +kernel

/-! ### Witnesses for the boundary statements -/

/-- A header met after a reset that abandoned its frame, one that cannot be repaired, and cut-short bits then. -/
theorem witness_Abandoned : (State.reset.withReceiver (.abandoned none)).line.receiver = .abandoned none ∧
    (judgeHeader (headerOfFrame from5 (.reply replyM)) (checkByte (headerOfFrame from5 (.reply replyM)))).good =
      some (headerOfFrame from5 (.reply replyM)) ∧
    (judgeHeader 0#24 0xFF#8).good = none ∧ State.reset.line.receiver ≠ .abandoned none ∧
    State.reset.line.receiver = .awaiting ∧ 40 ≤ bits3.length ∧
    abandoned.line.receiver = .abandoned (some (headerOfFrame from5 (.reply replyM))) := by decide +kernel

/-- R8, R191: the word of 00:00:00;00 in P0 by its fields, and words that fail by a digit, by the drop flag and by the sum. -/
theorem witness_Words : countOfLabel .p0 ⟨0#8, 0#8, 0#8, 0#8⟩ = some 0 ∧ (0x0C000000#32).toNat = 2 ^ 26 * 1 + 2 ^ 27 * (1 % 32) ∧
    9 < (0xFFFFFFFF#32).toNat % 2 ^ 4 ∧ (0#32).toNat / 2 ^ 26 % 2 ≠ 1 ∧
    (0x14000000#32).toNat / 2 ^ 27 ≠ (0 + (0x14000000#32).toNat / 2 ^ 26 % 2) % 32 ∧ judgeWord .p0 0x14000000#32 = none := by
  decide +kernel

/-- The end of a frame that brings this word. -/
def framed (word : Option Nat) (s : State) : State :=
  { s with ref := { s.ref with lineCounter := 524, frameWord := word } }

/-- The booth at a position with its entry in this state and these marks crossed. -/
def boothAt (position : Nat) (e : Entry) (crossed : BitVec 9) : State :=
  ({ booth .none with
    ref := { (booth .none).ref with position := position }, entries := [{ e with crossed := crossed }] } : State).settle

/-- The booth rolling in take 2 of its cue, of serial 1. -/
def onAir (position : Nat) (crossed : BitVec 9) : State :=
  ({ boothAt position { entry .granted .running with serial := some 1#16 } crossed with
    cues := State.reset.cues.set 5 (some { cue with takeCount := 2, lastResult := some .inFlight })
    takes :=
      { serial := 1#16, log := [{ record .inFlight with take := 2 }]
        journal := [{ serial := 1#16, slot := 5, takeCount := 1, lastResult := some .recorded, displaced := none }]
        deskLog := [] } } : State).settle

/-- The booth of a cue of 99 takes, one frame before its punch-in. -/
def atLimit : State :=
  { boothAt 1184 (entry .granted .idle) 0x1F#9 with
    cues := State.reset.cues.set 5 (some { cue with takeCount := 99 }) }

/-- The booth's step at the end of a frame with this word is a boundary that takes marks. -/
theorem takesMarks_framed {s : State} {d n : Nat} (h1 : linesOf s.straps.profile - 4 ≤ (framed (some n) s).ref.lineCounter)
    (h2 : (framed (some n) s).activeBooth = true) (h3 : d = 1 ∨ d = 2) (h4 : settled s.ref.transport = true)
    (h5 : rolling (after (exec (.framePulse true) (framed (some n) s))).ref.transport = true)
    (h6 : (after (exec (.framePulse true) (framed (some n) s))).ref.position = onward s.day s.ref.position d) :
    takesMarks (.framePulse true) (framed (some n) s) (after (exec (.framePulse true) (framed (some n) s))) d :=
  ⟨.inl ⟨true, rfl, h1⟩, rfl, h2, h3, h4, h5, h6⟩

/-- The last frame before a beep mark, a punch-in by one and by two frames, a punch-in at the limit, a cue-in and a
punch-out. -/
def marked : List (State × Nat × MarkKind) :=
  [(boothAt 1109 (entry .granted .idle) 0x001#9, 1, .beep3), (boothAt 1184 (entry .granted .idle) 0x01F#9, 1, .punchIn),
   (boothAt 1183 (entry .granted .idle) 0x01F#9, 2, .punchIn), (atLimit, 1, .punchIn), (onAir 1199 0x03F#9, 1, .cueIn),
   (onAir 1269 0x0FF#9, 1, .punchOut)]

theorem witness_TakesMarks : ∀ x ∈ marked, ∀ s t, s = framed (some (x.1.ref.position + x.2.1)) x.1 →
    t = after (exec (.framePulse true) s) →
      (RefInv s ∧ CueInv s ∧ LookInv s ∧ TakeInv s ∧ FlightInv s) ∧ takesMarks (.framePulse true) s t x.2.1 ∧
        ∀ e ∈ s.entries, markHit s x.2.1 e x.2.2 = true ∧ (s.cueAt e.slot).isSome = true := by
  intro x hx s t hs ht
  subst hs ht
  simp only [marked, List.mem_cons, List.not_mem_nil, or_false] at hx
  rcases hx with rfl | rfl | rfl | rfl | rfl | rfl <;>
    exact ⟨by decide +kernel, takesMarks_framed (by decide +kernel) (by decide +kernel) (by decide) (by decide +kernel)
      (by decide +kernel) (by decide +kernel), by decide +kernel⟩

/-- R95, R101: the punch-in taken starts take 2 of slot 5 with serial 1, and the punch-out taken ends it without evidence. -/
theorem test_take_starts_and_ends :
    (after (exec (.framePulse true) (framed (some 1185) (boothAt 1184 (entry .granted .idle) 0x01F#9)))).takes.log.map
      (fun r => (r.serial, r.slot, r.take, r.result, r.start)) = [(1#16, 5, 2, .inFlight, 1185)] ∧
    (after (exec (.framePulse true) (framed (some 1270) (onAir 1269 0x0FF#9)))).takes.log.map
      (fun r => (r.result, r.stop)) = [(.notRecorded, some 1270)] := by decide +kernel

/-- Every invariant holds of the booth rolling in a take, at the end of the frame that takes its cue-in. -/
theorem witness_StepKeepsRolling : Sound { framed (some 1200) (onAir 1199 0x03F#9) with pending := [.framePulse true] } ∧
    ∃ t, step { framed (some 1200) (onAir 1199 0x03F#9) with pending := [.framePulse true] } = .next t := by
  refine ⟨⟨?_, ?_, ?_, ?_, ?_, ?_, ?_, ?_, ?_, ?_, ?_, ?_, ?_, ?_⟩, ⟨_, rfl⟩⟩ <;> decide +kernel

/-- The steps at which a take in flight is kept or undone: a jump, the loss of the reference, an ABORT of its room, an ENGINE
reset and a clash, before and after the cue-in mark. -/
theorem witness_TakesInFlight : ∀ s ∈ [onAir 1190 0x03F#9, onAir 1210 0x07F#9],
    (RefInv s ∧ CueInv s ∧ LookInv s ∧ TakeInv s ∧ FlightInv s) ∧ s.activeBooth = true ∧ s.running.length = 1 := by
  decide +kernel

/-- The five commands that stop such a take, and the cue-in mark before and after. -/
theorem witness_TakesInFlightStop : ∀ s ∈ [onAir 1190 0x03F#9, onAir 1210 0x07F#9],
    (linesOf s.straps.profile - 4 ≤ (framed (some 5000) s).ref.lineCounter ∧
      rolling (after (exec (.framePulse true) (framed (some 5000) s))).ref.transport = false) ∧
    s.ref.lock ≠ .unlocked ∧ s.abortMine (.room 1#2) = true ∧ s.line.receiver ≠ .abandoned none ∧
    s.line.receiver ≠ .incoming (some (headerFor 3#4 0#4 (.abort .all))) ∧
    (judgeHeader (headerFor 3#4 0#4 (.abort .all)) (checkByte (headerFor 3#4 0#4 (.abort .all)))).good =
      some (headerFor 3#4 0#4 (.abort .all)) ∧
    headerSource (headerFor 3#4 0#4 (.abort .all)) = s.straps.address ∧
    (onAir 1190 0x03F#9).entries.any (fun e => e.isCrossed .cueIn) = false ∧
    (onAir 1210 0x07F#9).entries.all (fun e => e.isCrossed .cueIn) = true := by decide +kernel

/-- R104, R105: a jump before the cue-in mark takes the take back, and after it keeps it ABORTED at the new position. -/
theorem test_jump_unwinds_or_keeps :
    (after (exec (.framePulse true) (framed (some 5000) (onAir 1190 0x03F#9)))).takes.log = [] ∧
    ((after (exec (.framePulse true) (framed (some 5000) (onAir 1190 0x03F#9)))).cueAt 5).map Cue.takeCount = some 1 ∧
    (after (exec (.framePulse true) (framed (some 5000) (onAir 1210 0x07F#9)))).takes.log.map
      (fun r => (r.result, r.stop)) = [(.aborted, some 5000)] := by decide +kernel

/-- A SELECT off of slots 0 to 9 at a booth rolling in a take of slot 5, before and after its cue-in mark. -/
theorem witness_SelectOffInFlight : ∀ s ∈ [onAir 1190 0x03F#9, onAir 1210 0x07F#9].map
      (receiving from5 (.select ⟨0#8, 9#8⟩ false)),
    (CueInv s ∧ LookInv s ∧ TakeInv s ∧ FlightInv s) ∧ LineInv s ∧
      s.line.receiver = .taking (headerOfFrame from5 (.select ⟨0#8, 9#8⟩ false)) ∧ s.activeBooth = true ∧
      s.running.map Entry.serial = [some 1#16] ∧ s.takes.journal.map JournalRecord.serial = [1#16] ∧
      (s.cueAt 5).isSome = true ∧ s.running.any (fun e => e.slot == 6) = false := by
  intro s hs
  simp only [List.map_cons, List.map_nil, List.mem_cons, List.not_mem_nil, or_false] at hs
  rcases hs with rfl | rfl <;>
    exact ⟨by decide +kernel, by decide +kernel, rfl, by decide +kernel, by decide +kernel, by decide +kernel,
      by decide +kernel, by decide +kernel⟩

/-- R67, R103: the take of a deselected slot is undone before its cue-in mark and kept ABORTED after it, and its claim is
given back with EVICT. -/
theorem test_select_off_stops_the_take :
    [onAir 1190 0x03F#9, onAir 1210 0x07F#9].map (fun s => (after (exec (.selectOff from5 ⟨0#8, 9#8⟩)
      (receiving from5 (.select ⟨0#8, 9#8⟩ false) s))).takes.log.map LogRecord.result) = [[], [.aborted]] ∧
    ((after (exec (.selectOff from5 ⟨0#8, 9#8⟩)
      (receiving from5 (.select ⟨0#8, 9#8⟩ false) (onAir 1190 0x03F#9)))).line.queue.head?).map TxMsg.content =
      some (.fixed 0#4 (.release { track := 2#8, claimNo := 7#8, reason := .evict })) := by decide +kernel

/-- The booth rolling in its take, behind an entry of slot 4 with an open claim. -/
def twoClaims : State :=
  { onAir 1190 0x03F#9 with
    cues := (onAir 1190 0x03F#9).cues.set 4 (some cue)
    entries := { entry .pending .idle with slot := 4, claimNo := some 6#8 } :: (onAir 1190 0x03F#9).entries }

/-- R66, R103, R124: the running take is aborted first, and the RELEASE messages of the ABORT stand in entry order, the
running take's behind that of the entry before. -/
theorem test_abort_releases_in_entry_order :
    ((standAllDown twoClaims).line.queue.map TxMsg.content =
      [7#8, 6#8].map (fun n => .fixed 0#4 (.release { track := 2#8, claimNo := n, reason := .abort }))) ∧
    (after (exec (.abort from5 .all) (receiving from5 (.abort .all) twoClaims))).line.queue.map TxMsg.content =
      [6#8, 7#8].map (fun n => .fixed 0#4 (.release { track := 2#8, claimNo := n, reason := .abort })) := by decide +kernel

/-- A booth whose third delta since a jump is on its way: the transport leaves SETTLING for VARI. -/
def settling (claim : ClaimState) : State :=
  framed (some 1001)
    { booth claim with ref := { (booth claim).ref with history := [1, 1], transport := .settling } }

theorem witness_Rebuild : ∀ claim ∈ [ClaimState.granted, .denied, .noRecorder],
    RefInv (settling claim) ∧ CueInv (settling claim) ∧ LookInv (settling claim) ∧ TakeInv (settling claim) ∧
      FlightInv (settling claim) ∧ linesOf .p0 - 4 ≤ (settling claim).ref.lineCounter ∧
      (settling claim).activeBooth = true ∧ settled (settling claim).ref.transport = false ∧
      settled (after (exec (.framePulse true) (settling claim))).ref.transport = true ∧
      (settling claim).trackOf 5 = some 2#8 ∧
      (after (exec (.framePulse true) (settling claim))).inLookahead 5 = true := by decide +kernel

/-- A booth at a rebuild that hears a bank 0 recorder: its denied claim is made again with the next number (R64, R114). -/
def hearing (s : State) : State :=
  { s with station := { s.station with
      peers := s.station.peers.set 6
        { present := true, info := some ⟨.recorder0, 1#8, .active, .locked, .play, 0#24⟩, ticks := 0 } } }

theorem test_rebuild_claims_again :
    (after (exec (.framePulse true) (hearing (settling .denied)))).claimCounter = 1#8 ∧
    (after (exec (.framePulse true) (hearing (settling .denied)))).entries.map (fun e => (e.claim, e.claimNo)) =
      [(.pending, some 1#8)] := by decide +kernel

/-- The booth's table with nothing in the lookahead, and with a RUNNING entry; and a station without a lookahead. -/
theorem witness_Recomputation : (∀ s ∈ [{ booth .none with entries := [] }, onAir 1190 0x03F#9],
      LookInv s ∧ CueInv s ∧ s.running.length ≤ 2 ∧ s.straps.role = .booth ∧ s.station.state = .active ∧
        s.ref.transport ≠ .noRef) ∧
    ((recompute { booth .none with entries := [] }).entries.map (fun e => (e.slot, e.claim, e.key))) =
      [(5, .noRecorder, 50)] ∧
    State.reset.station.state ≠ .active ∧ (active .desk).straps.role ≠ .booth := by decide +kernel

theorem witness_Marks : CueGood .p0 cue ∧ CueGood .p0 { cue with streamer := 0#8, beepCount := 0#8, pre := 0#8, post := 0#8 } ∧
    (booth .none).candidates = [5] := by decide +kernel

/-- The outputs at a boundary, with and without keying. -/
theorem witness_BoundaryOutputs :
    (linesOf .p0 - 4 ≤ (framed (some 1150) (boothAt 1149 (entry .none .idle) 0x1F#9)).ref.lineCounter ∧
      ((after (exec (.framePulse true) (framed (some 1150) (boothAt 1149 (entry .none .idle) 0x1F#9)))).entries.map
        Entry.slot).Nodup ∧
      (after (exec (.framePulse true) (framed (some 1150) (boothAt 1149 (entry .none .idle) 0x1F#9)))).out.drawn = [5]) ∧
    linesOf .p0 + 4 ≤ (withLine 528 State.reset).ref.lineCounter + 1 ∧
    (after (exec .linePulse (withLine 528 State.reset))).keyingPermitted = false := by decide +kernel

/-- The booth drawing its one entry 30 frames before cue-in, on the first and the last active line and on either side of them. -/
def drawing (line : Nat) : State :=
  { boothAt 1170 (entry .none .idle) 0x01F#9 with
    ref := { (boothAt 1170 (entry .none .idle) 0x01F#9).ref with lineCounter := line }
    out := { (boothAt 1170 (entry .none .idle) 0x01F#9).out with drawn := [5], resumed := true } }

/-- R76, R77: half way at line 0 of 525 of the frame, with L = 60: column (30 × 256 + 256 × 22 / 525) × 720 / (60 × 256). -/
theorem witness_KeyedColumns : (∀ n ∈ [22, 501], (drawing n).out.sweep = false ∧ (drawing n).keyingPermitted = true ∧
      (drawing n).out.flash = false ∧ (drawing n).out.resumed = true ∧ 22 ≤ (drawing n).rasterLine ∧
      (drawing n).rasterLine ≤ 501 ∧ (drawing n).cueAt 5 = some cue ∧ cue.cueIn < (drawing n).day ∧
      (drawing n).ref.position < (drawing n).day) ∧
    (drawing 21).rasterLine < 22 ∧ 501 < (drawing 502).rasterLine ∧ (drawing 22).keyedRanges = [(360, 368)] ∧
    (drawing 21).keyedRanges = [] := by decide +kernel

/-- R71: KEY follows the keyed columns behind the 122 pixel clocks of P0's sync and back porch, and is deasserted while the
pixel clock is stopped. -/
theorem test_key_follows_the_pixel_clock :
    [PixelClock.running 481, .running 482, .running 489, .running 490, .stopped].map
      (fun clock => (drawing 22).fixKeyed.keyAt clock) = [false, true, true, false, false] := by decide +kernel

/-- The recorder at a boundary, by one frame on and by a jump that cuts its gate. -/
theorem witness_BoundaryGates : ∀ word ∈ [1001, 5000], RefInv (framed (some word) recorder) ∧
    TrackInv (framed (some word) recorder) ∧ linesOf .p0 - 4 ≤ (framed (some word) recorder).ref.lineCounter ∧
    isRecorder (framed (some word) recorder).straps.role = true ∧ (framed (some word) recorder).station.state = .active ∧
    (rolling recorder.ref.transport &&
      !rolling (after (exec (.framePulse true) (framed (some word) recorder))).ref.transport) = decide (word = 5000) ∧
    (recorder.tracks[2]?).isSome = true := by decide +kernel

/-- R136, R133: one frame on, the gate stays with the reservation it names; a jump cuts it and removes that reservation. -/
theorem test_boundary_cuts_the_gate :
    ((after (exec (.framePulse true) (framed (some 1001) recorder))).tracks[2]?).map (fun t => (t.table.length, t.named.isSome)) =
      some (2, true) ∧
    ((after (exec (.framePulse true) (framed (some 1050) recorder))).tracks[2]?).map (fun t => (t.table.length, t.named.isSome)) =
      some (1, false) ∧
    (after (exec (.framePulse true) (framed (some 1050) recorder))).hasFlag .gateCut = true := by decide +kernel

/-! ### Requests as bytes and bits -/

/-- R195: the codes 0x01 to 0x09 with their parameters, the three RESET levels, and an unknown code. -/
theorem test_request_bytes :
    [[0x01#8], [0x02#8, 1#8, 2#8], [0x03#8], [0x04#8, 6#8, 0#8, 1#8, 4#8], [0x05#8, 0x12#8, 0x34#8], [0x06#8, 0#8, 5#8],
      [0x08#8], [0x09#8, 1#8], [0x0A#8]].map (requestOf { addr1 := .l0, addr0 := .l0, role := .l0, room := .l0, profile := .l0, hold := false }) =
      [some .status, some (.read 1#8 2#8), some .popInbox, some (.send 6#8 0#8 [4#8]), some (.ackFlags 0x1234#16),
        some (.setMask 5#16), some .releaseHold, some (.sweep 1#8), some (.badRequest 0x0A#8 [])] ∧
    [1#8, 2#8, 3#8, 4#8].map (fun n => requestOf { addr1 := .l0, addr0 := .l0, role := .l0, room := .l0, profile := .l0, hold := false } [0x07#8, n]) =
      [some (.resetRestart { addr1 := .l0, addr0 := .l0, role := .l0, room := .l0, profile := .l0, hold := false }), some .resetClear,
        some .resetEngine, some (.badRequest 0x07#8 [4#8])] := by decide

/-- R198: code 0x09 and its byte 0x01 in the order of PDI; a request whose last bit has not come is none. -/
theorem test_request_bits :
    [16, 15].map (fun n => requestOfBits { addr1 := .l0, addr0 := .l0, role := .l0, room := .l0, profile := .l0, hold := false }
      ([false, false, false, false, true, false, false, true, false, false, false, false, false, false, false, true].take n)) =
      [some (.sweep 1#8), none] := by decide

/-- R198: the status byte of a POP_INBOX answered EMPTY goes most significant bit first, and PDO is undriven while PSEL is
high. -/
theorem test_pdo : (List.range 8).map (fun n => (after (exec .popInbox State.reset)).pdoAt true n) =
      (bitsOfByte (statusCode .empty)).map PdoLevel.answerBit ∧ State.reset.pdoAt true 0 = .noAnswer ∧
    (after (exec .popInbox State.reset)).pdoAt false 0 = .undriven := by decide +kernel

/-- A frame has begun on the line, and no command has told of its header. -/
def begun : State := after (exec (.attemptStart { quiet := 30, busy := true }) (active .booth))

/-- R145, R154: a line that turns busy loses its idle count. -/
theorem test_busy_line_loses_its_count : begun.line.idle = none ∧ begun.line.receiver = .incoming none ∧
    (after (exec (.attemptStart { quiet := 22, busy := true }) (quietFor none (withTx [queued 0] (active .booth))))).line.idle =
      none ∧
    (after (exec (.attemptStart { quiet := 23, busy := true }) (quietFor none (withTx [queued 0] (active .booth))))).line.attempt.isSome =
      true := by decide +kernel

/-- R146, R176: the receiver of a station whose attempt begins knows the header it drives. -/
theorem test_attempt_header_known :
    (after (exec (.attemptStart { quiet := 23, busy := true }) (quietFor none (withTx [queued 0] (active .booth))))).line.receiver =
      .incoming (some (headerFor 3#4 0#4 (.release { track := 2#8, claimNo := 7#8, reason := .done }))) := by decide +kernel

/-- R165: the header of a frame abandoned at a reset is not judged, and its frame changes no peer. -/
theorem test_reset_abandons : ∀ s ∈ [after (exec .resetClear begun)],
    s.line.receiver = .abandoned none ∧ s.line.idle = some 0 ∧
    (after (exec (.reply from5 replyM) (after (exec (.headerReceived (headerOfFrame from5 (.reply replyM))
      (checkByte (headerOfFrame from5 (.reply replyM)))) s)))).station.peers = s.station.peers := by decide +kernel

end Sys2Proof.Tests
end

/-! ## Labels and frame counts (R8 to R11): existing labels and counts below D stand one for one -/

section
namespace Sys2Proof.Machine

theorem byte_toNat {n : Nat} (h : n < 256) : (byte n).toNat = n := by
  simp [byte, Nat.mod_eq_of_lt h]

theorem dropOf_eq_false {p : Profile} (hp : p ≠ .p0) : dropOf p = false := by
  cases p <;> simp_all [dropOf]

theorem dayOf_pos (p : Profile) : 0 < dayOf p := by cases p <;> decide

/-- A label in range is a mixed-radix number of hours, minutes, seconds and frames (R9). -/
theorem radix_iff {F hh mm ss ff n : Nat} (hF : F = 24 ∨ F = 25 ∨ F = 30) :
    ((hh < 24 ∧ mm < 60 ∧ ss < 60 ∧ ff < F) ∧ ((hh * 60 + mm) * 60 + ss) * F + ff = n) ↔
      n < 86400 * F ∧ hh = n / (3600 * F) ∧ mm = n / (60 * F) % 60 ∧ ss = n / F % 60 ∧ ff = n % F := by
  rcases hF with rfl | rfl | rfl <;> omega

/-- Drop-frame counting (R10) undone by the nominal count of R11: a label that exists has the nominal count of its
digits, which says how many frame numbers its day has left out before it. -/
theorem nominalCount_p0_of_label {hh mm ss ff : Nat} (hs : ss < 60) (hf : ff < 30)
    (hx : ¬ (ss = 0 ∧ (ff = 0 ∨ ff = 1) ∧ mm % 10 ≠ 0)) :
    nominalCount .p0 (((60 * hh + mm) * 60 + ss) * 30 + ff - 2 * ((60 * hh + mm) - (60 * hh + mm) / 10)) =
      ((hh * 60 + mm) * 60 + ss) * 30 + ff := by
  have hblock : ((60 * hh + mm) * 60 + ss) * 30 + ff - 2 * ((60 * hh + mm) - (60 * hh + mm) / 10) =
      17982 * (6 * hh + mm / 10) + (1798 * (mm % 10) + (30 * ss + ff)) := by omega
  have hlt : 1798 * (mm % 10) + (30 * ss + ff) < 17982 := by omega
  have hdiv : (17982 * (6 * hh + mm / 10) + (1798 * (mm % 10) + (30 * ss + ff))) / 17982 = 6 * hh + mm / 10 := by omega
  have hmod : (17982 * (6 * hh + mm / 10) + (1798 * (mm % 10) + (30 * ss + ff))) % 17982 =
      1798 * (mm % 10) + (30 * ss + ff) := by omega
  rw [hblock]
  simp only [nominalCount, dropOf, if_true, hdiv, hmod]
  split <;> omega

/-- The nominal count of a count below D is that of a label that exists, and R10 gives the count back (R11). -/
theorem nominalCount_p0_spec {n N : Nat} (hn : n < 2589408) (hN : N = nominalCount .p0 n) :
    N < 2592000 ∧ ¬ (N / 30 % 60 = 0 ∧ (N % 30 = 0 ∨ N % 30 = 1) ∧ N / 1800 % 60 % 10 ≠ 0) ∧
      N - 2 * (N / 1800 - N / 1800 / 10) = n := by
  have hm : n % 17982 < 17982 := Nat.mod_lt _ (by decide)
  have hd : n = 17982 * (n / 17982) + n % 17982 := (Nat.div_add_mod n 17982).symm
  have hd144 : n / 17982 < 144 := by omega
  simp only [nominalCount, dropOf, if_true] at hN
  generalize n / 17982 = d at *
  generalize n % 17982 = m at *
  by_cases h2 : m < 2
  · rw [if_pos h2] at hN
    omega
  · rw [if_neg h2] at hN
    obtain ⟨k, x, hk, hx2, hx, hmk⟩ : ∃ k x, (m - 2) / 1798 = k ∧ 2 ≤ x ∧ x < 1800 ∧ m = 1798 * k + x :=
      ⟨(m - 2) / 1798, (m - 2) % 1798 + 2, rfl, by omega, by omega, by omega⟩
    have hk10 : k < 10 := by omega
    have hN' : N = 1800 * (10 * d + k) + x := by omega
    have hmin : N / 1800 = 10 * d + k := by omega
    rw [hmin]
    omega

/-- Which labels P0 gives a count, and which count: the whole of R10. -/
theorem labelCount_p0_eq_some_iff {hh mm ss ff n : Nat} :
    labelCount .p0 hh mm ss ff = some n ↔
      (hh < 24 ∧ mm < 60 ∧ ss < 60 ∧ ff < 30) ∧ ¬ (ss = 0 ∧ (ff = 0 ∨ ff = 1) ∧ mm % 10 ≠ 0) ∧
        ((60 * hh + mm) * 60 + ss) * 30 + ff - 2 * ((60 * hh + mm) - (60 * hh + mm) / 10) = n := by
  simp only [labelCount, labelInRange, labelDropped, countOfExisting, dropOf, Bool.true_and, if_true,
    Option.ite_none_right_eq_some, Bool.and_eq_true, Bool.not_eq_true', decide_eq_true_eq, decide_eq_false_iff_not,
    Option.some.injEq, and_assoc]
  rfl

/-- Every label in range has a count outside P0, and which count: R9. -/
theorem labelCount_plain_eq_some_iff {p : Profile} (hp : p ≠ .p0) {hh mm ss ff n : Nat} :
    labelCount p hh mm ss ff = some n ↔
      (hh < 24 ∧ mm < 60 ∧ ss < 60 ∧ ff < fpsOf p) ∧ ((hh * 60 + mm) * 60 + ss) * fpsOf p + ff = n := by
  simp [labelCount, labelInRange, labelDropped, countOfExisting, dropOf_eq_false hp]

/-- A label has a count exactly where the count is below D and the label's fields are those that R9 and R11 give. -/
theorem labelCount_eq_some_iff {p : Profile} {hh mm ss ff n : Nat} :
    labelCount p hh mm ss ff = some n ↔
      n < dayOf p ∧ hh = nominalCount p n / (3600 * fpsOf p) ∧ mm = nominalCount p n / (60 * fpsOf p) % 60 ∧
        ss = nominalCount p n / fpsOf p % 60 ∧ ff = nominalCount p n % fpsOf p := by
  cases p with
  | p0 =>
    rw [labelCount_p0_eq_some_iff]
    simp only [fpsOf, dayOf]
    constructor
    · rintro ⟨⟨hh24, hm, hs, hf⟩, hx, rfl⟩
      rw [nominalCount_p0_of_label hs hf hx]
      have hlast : (60 * hh + mm) * 1798 + (60 * hh + mm) / 10 * 2 ≤ 1439 * 1798 + 143 * 2 := by omega
      omega
    · rintro ⟨hn, rfl, rfl, rfl, rfl⟩
      obtain ⟨hN, hx, hc⟩ := nominalCount_p0_spec hn rfl
      generalize nominalCount .p0 n = N at *
      have hminutes : 60 * (N / (3600 * 30)) + N / (60 * 30) % 60 = N / 1800 := by omega
      rw [hminutes]
      omega
  | p1 => rw [labelCount_plain_eq_some_iff (by decide)]; exact radix_iff (F := 25) (by decide)
  | p2 => rw [labelCount_plain_eq_some_iff (by decide)]; exact radix_iff (F := 24) (by decide)
  | p3 => rw [labelCount_plain_eq_some_iff (by decide)]; exact radix_iff (F := 30) (by decide)

theorem labelCount_lt_day {p : Profile} {hh mm ss ff n : Nat} (h : labelCount p hh mm ss ff = some n) : n < dayOf p :=
  (labelCount_eq_some_iff.mp h).1

/-- Two labels with the same count are the same label. -/
theorem labelCount_inj {p : Profile} {hh mm ss ff hh' mm' ss' ff' n : Nat} (h : labelCount p hh mm ss ff = some n)
    (h' : labelCount p hh' mm' ss' ff' = some n) : hh = hh' ∧ mm = mm' ∧ ss = ss' ∧ ff = ff' := by
  obtain ⟨-, rfl, rfl, rfl, rfl⟩ := labelCount_eq_some_iff.mp h
  obtain ⟨-, rfl, rfl, rfl, rfl⟩ := labelCount_eq_some_iff.mp h'
  simp

theorem labelCount_range {p : Profile} {hh mm ss ff n : Nat} (h : labelCount p hh mm ss ff = some n) :
    hh < 24 ∧ mm < 60 ∧ ss < 60 ∧ ff < fpsOf p := by
  unfold labelCount at h
  split at h
  · next hr =>
    rw [Bool.and_eq_true] at hr
    exact of_decide_eq_true hr.1
  · contradiction

theorem fpsOf_le (p : Profile) : fpsOf p ≤ 30 := by cases p <;> decide

/-- The bytes of the label of a count below D hold the fields of R9 and R11 without loss. -/
theorem labelOfCount_toNat {p : Profile} {n : Nat} (hn : n < dayOf p) :
    (labelOfCount p n).hours.toNat = nominalCount p n / (3600 * fpsOf p) ∧
      (labelOfCount p n).minutes.toNat = nominalCount p n / (60 * fpsOf p) % 60 ∧
      (labelOfCount p n).seconds.toNat = nominalCount p n / fpsOf p % 60 ∧
      (labelOfCount p n).frames.toNat = nominalCount p n % fpsOf p := by
  have hr := labelCount_range (labelCount_eq_some_iff.mpr ⟨hn, rfl, rfl, rfl, rfl⟩)
  have hF := fpsOf_le p
  exact ⟨byte_toNat (by omega), byte_toNat (by omega), byte_toNat (by omega), byte_toNat (by omega)⟩

/-- The label of a count below D exists and has that count (R11). -/
theorem countOfLabel_labelOfCount {p : Profile} {n : Nat} (hn : n < dayOf p) :
    countOfLabel p (labelOfCount p n) = some n := by
  obtain ⟨hh, hm, hs, hf⟩ := labelOfCount_toNat hn
  exact labelCount_eq_some_iff.mpr ⟨hn, hh, hm, hs, hf⟩

/-- A label with a count is the label of that count. -/
theorem labelOfCount_of_countOfLabel {p : Profile} {l : Label} {n : Nat} (h : countOfLabel p l = some n) :
    labelOfCount p n = l := by
  obtain ⟨hh, hm, hs, hf⟩ := labelCount_inj (countOfLabel_labelOfCount (labelCount_lt_day h)) h
  cases l
  simp only [labelOfCount, Label.mk.injEq] at *
  exact ⟨BitVec.eq_of_toNat_eq hh, BitVec.eq_of_toNat_eq hm, BitVec.eq_of_toNat_eq hs, BitVec.eq_of_toNat_eq hf⟩

/-- Settles O20: outside P0 every label in range exists, and counting is mixed radix (R9). -/
theorem labelsOfNonDropProfiles : Obligations.LabelsOfNonDropProfiles := by
  refine ⟨fun p hp => ⟨?_, ?_, ?_⟩, by decide⟩
  · intro hh mm ss ff h1 h2 h3 h4
    exact (labelCount_plain_eq_some_iff hp).mpr ⟨⟨h1, h2, h3, h4⟩, rfl⟩
  · intro n hn
    obtain ⟨hh, hm, hs, hf⟩ := labelOfCount_toNat hn
    have hplain : nominalCount p n = n := by simp [nominalCount, dropOf_eq_false hp]
    rw [hplain] at hh hm hs hf
    exact ⟨_, _, _, _, rfl, rfl, rfl, rfl, hh, hm, hs, hf⟩
  · cases p <;> rfl

/-- Settles O21: which labels P0 leaves out, the frames they leave in a minute, a block and the day, and the four steps
of R11 with the conversion back. -/
theorem labelsOfTheDropFrameProfile : Obligations.LabelsOfTheDropFrameProfile := by
  refine ⟨rfl, ?_, ?_, rfl, rfl, rfl, rfl, rfl, rfl, ?_⟩
  · intro hh mm ss ff h1 h2 h3 h4
    split
    · next hx =>
      refine Option.eq_none_iff_forall_ne_some.mpr fun n hn => ?_
      exact (labelCount_p0_eq_some_iff.mp hn).2.1 hx
    · next hx => exact labelCount_p0_eq_some_iff.mpr ⟨⟨h1, h2, h3, h4⟩, hx, rfl⟩
  · intro hh mm a b ha hb
    obtain ⟨-, -, rfl⟩ := labelCount_p0_eq_some_iff.mp ha
    obtain ⟨-, -, rfl⟩ := labelCount_p0_eq_some_iff.mp hb
    split <;> omega
  · intro n hn
    obtain ⟨hh, hm, hs, hf⟩ := labelOfCount_toNat (p := .p0) hn
    exact ⟨_, _, _, nominalCount .p0 n, rfl, rfl, rfl, rfl, hf, hs, hm, hh, countOfLabel_labelOfCount hn⟩

end Sys2Proof.Machine
end

/-! ## The position word (R8, R191): the words that are judged valid are those of the labels that exist -/

section
namespace Sys2Proof.Machine

theorem wordField_eq (w : BitVec 32) (first width : Nat) :
    wordField w first width = w.toNat / 2 ^ first % 2 ^ width := by
  simp [wordField, Nat.shiftRight_eq_div_pow]

/-- The drop flag a word of the profile carries (R8). -/
theorem dropFlag_iff {p : Profile} {x : Nat} (hx : x < 2) :
    (decide (x = 1) == dropOf p) = true ↔ x = if p = .p0 then 1 else 0 := by
  cases p <;> simp [dropOf] <;> omega

/-- The conditions of R8 on a word, field by field: the check sum, the digits, the drop flag and the label. -/
theorem judgeWord_eq_some_iff {p : Profile} {w : BitVec 32} {n : Nat} :
    judgeWord p w = some n ↔
      w.toNat / 2 ^ 27 % 2 ^ 5 =
          (w.toNat / 2 ^ 0 % 2 ^ 4 + w.toNat / 2 ^ 4 % 2 ^ 2 + w.toNat / 2 ^ 6 % 2 ^ 4 + w.toNat / 2 ^ 10 % 2 ^ 3 +
            w.toNat / 2 ^ 13 % 2 ^ 4 + w.toNat / 2 ^ 17 % 2 ^ 3 + w.toNat / 2 ^ 20 % 2 ^ 4 + w.toNat / 2 ^ 24 % 2 ^ 2 +
            w.toNat / 2 ^ 26 % 2 ^ 1) % 32 ∧
        (w.toNat / 2 ^ 0 % 2 ^ 4 ≤ 9 ∧ w.toNat / 2 ^ 6 % 2 ^ 4 ≤ 9 ∧ w.toNat / 2 ^ 13 % 2 ^ 4 ≤ 9 ∧
          w.toNat / 2 ^ 20 % 2 ^ 4 ≤ 9) ∧
        w.toNat / 2 ^ 26 % 2 ^ 1 = (if p = .p0 then 1 else 0) ∧
        labelCount p (10 * (w.toNat / 2 ^ 24 % 2 ^ 2) + w.toNat / 2 ^ 20 % 2 ^ 4)
          (10 * (w.toNat / 2 ^ 17 % 2 ^ 3) + w.toNat / 2 ^ 13 % 2 ^ 4)
          (10 * (w.toNat / 2 ^ 10 % 2 ^ 3) + w.toNat / 2 ^ 6 % 2 ^ 4)
          (10 * (w.toNat / 2 ^ 4 % 2 ^ 2) + w.toNat / 2 ^ 0 % 2 ^ 4) = some n := by
  have hdrop := dropFlag_iff (p := p) (Nat.mod_lt (w.toNat / 2 ^ 26) (y := 2 ^ 1) (by decide))
  have hdigits : wordDigitsOk w = true ↔
      w.toNat / 2 ^ 0 % 2 ^ 4 ≤ 9 ∧ w.toNat / 2 ^ 6 % 2 ^ 4 ≤ 9 ∧ w.toNat / 2 ^ 13 % 2 ^ 4 ≤ 9 ∧
        w.toNat / 2 ^ 20 % 2 ^ 4 ≤ 9 := by
    simp only [wordDigitsOk, wordField_eq, decide_eq_true_eq]
    omega
  simp only [judgeWord, Option.ite_none_right_eq_some, Bool.and_eq_true, hdigits, wordSum, wordField_eq,
    decide_eq_true_eq, hdrop, and_assoc]

theorem judgeWord_lt_day {p : Profile} {w : BitVec 32} {n : Nat} (h : judgeWord p w = some n) : n < dayOf p :=
  labelCount_lt_day (judgeWord_eq_some_iff.mp h).2.2.2

/-- A number below 2 ^ 32 is the sum of its fields at the places of R191. -/
theorem word_toNat_split (w : BitVec 32) :
    w.toNat = w.toNat / 2 ^ 0 % 2 ^ 4 + 2 ^ 4 * (w.toNat / 2 ^ 4 % 2 ^ 2) + 2 ^ 6 * (w.toNat / 2 ^ 6 % 2 ^ 4) +
      2 ^ 10 * (w.toNat / 2 ^ 10 % 2 ^ 3) + 2 ^ 13 * (w.toNat / 2 ^ 13 % 2 ^ 4) + 2 ^ 17 * (w.toNat / 2 ^ 17 % 2 ^ 3) +
      2 ^ 20 * (w.toNat / 2 ^ 20 % 2 ^ 4) + 2 ^ 24 * (w.toNat / 2 ^ 24 % 2 ^ 2) + 2 ^ 26 * (w.toNat / 2 ^ 26 % 2 ^ 1) +
      2 ^ 27 * (w.toNat / 2 ^ 27 % 2 ^ 5) := by
  have h := w.isLt
  omega

/-- Numbers that fit their fields are read back from the sum at the places of R191. -/
theorem word_fields_of_sum {x a b c d e f g h i j : Nat}
    (hx : x = a + 2 ^ 4 * b + 2 ^ 6 * c + 2 ^ 10 * d + 2 ^ 13 * e + 2 ^ 17 * f + 2 ^ 20 * g + 2 ^ 24 * h + 2 ^ 26 * i +
      2 ^ 27 * j)
    (ha : a ≤ 9) (hb : b < 4) (hc : c ≤ 9) (hd : d < 8) (he : e ≤ 9) (hf : f < 8) (hg : g ≤ 9) (hh : h < 4)
    (hi : i < 2) (hj : j < 32) :
    x / 2 ^ 0 % 2 ^ 4 = a ∧ x / 2 ^ 4 % 2 ^ 2 = b ∧ x / 2 ^ 6 % 2 ^ 4 = c ∧ x / 2 ^ 10 % 2 ^ 3 = d ∧
      x / 2 ^ 13 % 2 ^ 4 = e ∧ x / 2 ^ 17 % 2 ^ 3 = f ∧ x / 2 ^ 20 % 2 ^ 4 = g ∧ x / 2 ^ 24 % 2 ^ 2 = h ∧
      x / 2 ^ 26 % 2 ^ 1 = i ∧ x / 2 ^ 27 % 2 ^ 5 = j := by
  subst hx
  refine ⟨?_, ?_, ?_, ?_, ?_, ?_, ?_, ?_, ?_, ?_⟩ <;> omega

/-- The digits of a number are those that its tens and units are put together from. -/
theorem digits_of_eq {x tens units : Nat} (hu : units ≤ 9) (hx : 10 * tens + units = x) :
    x / 10 = tens ∧ x % 10 = units := by omega

/-- A word is judged to a label's count exactly where it has the label's digits, the profile's drop flag and their
sum. -/
theorem judgeWord_iff_digits {p : Profile} {hh mm ss ff n drop sum : Nat} {w : BitVec 32}
    (hl : labelCount p hh mm ss ff = some n) (hdrop : drop = if p = .p0 then 1 else 0)
    (hsum : sum = ff % 10 + ff / 10 + ss % 10 + ss / 10 + mm % 10 + mm / 10 + hh % 10 + hh / 10 + drop) :
    judgeWord p w = some n ↔
      w.toNat = ff % 10 + 2 ^ 4 * (ff / 10) + 2 ^ 6 * (ss % 10) + 2 ^ 10 * (ss / 10) + 2 ^ 13 * (mm % 10) +
        2 ^ 17 * (mm / 10) + 2 ^ 20 * (hh % 10) + 2 ^ 24 * (hh / 10) + 2 ^ 26 * drop + 2 ^ 27 * (sum % 32) := by
  rw [judgeWord_eq_some_iff]
  constructor
  · rintro ⟨hcheck, ⟨hf, hs, hm, hh'⟩, hd, hc⟩
    obtain ⟨eh, em, es, ef⟩ := labelCount_inj hc hl
    obtain ⟨f10, f1⟩ := digits_of_eq hf ef
    obtain ⟨s10, s1⟩ := digits_of_eq hs es
    obtain ⟨m10, m1⟩ := digits_of_eq hm em
    obtain ⟨h10, h1⟩ := digits_of_eq hh' eh
    have hsplit := word_toNat_split w
    rw [hcheck, hd, ← hdrop, ← f1, ← f10, ← s1, ← s10, ← m1, ← m10, ← h1, ← h10, ← hsum] at hsplit
    exact hsplit
  · obtain ⟨hh24, hm60, hs60, hf⟩ := labelCount_range hl
    have hF := fpsOf_le p
    have hd2 : drop < 2 := by split at hdrop <;> omega
    have hdigits : (ff % 10 ≤ 9 ∧ ss % 10 ≤ 9 ∧ mm % 10 ≤ 9 ∧ hh % 10 ≤ 9) ∧
        ff / 10 < 4 ∧ ss / 10 < 8 ∧ mm / 10 < 8 ∧ hh / 10 < 4 := by omega
    obtain ⟨⟨uf, us, um, uh⟩, tf, ts, tm, th⟩ := hdigits
    intro hw
    obtain ⟨f1, f10, s1, s10, m1, m10, h1, h10, hd, hcheck⟩ :=
      word_fields_of_sum hw uf tf us ts um tm uh th hd2 (Nat.mod_lt _ (by decide))
    rw [f1, f10, s1, s10, m1, m10, h1, h10, hd, hcheck]
    simp only [Nat.div_add_mod]
    exact ⟨by rw [hsum], ⟨uf, us, um, uh⟩, hdrop, hl⟩

/-- Settles O19: labels and counts by the fields of R9 and R11, words by their fields of R191. -/
theorem labelsCountsAndWordsAreOneForOne : Obligations.LabelsCountsAndWordsAreOneForOne := by
  refine fun p => ⟨fun n hn => countOfLabel_labelOfCount hn,
    fun l n h => ⟨labelCount_lt_day h, labelOfCount_of_countOfLabel h⟩, ?_, ?_⟩
  · rintro l n _ _ _ _ drop sum w hl rfl rfl rfl rfl hdrop hsum
    exact judgeWord_iff_digits hl hdrop hsum
  · rintro w _ _ _ _ _ _ _ _ _ _ rfl rfl rfl rfl rfl rfl rfl rfl rfl rfl hbad
    refine Option.eq_none_iff_forall_ne_some.mpr fun n hn => ?_
    obtain ⟨hcheck, ⟨hf, hs, hm, hh⟩, hd, hc⟩ := judgeWord_eq_some_iff.mp hn
    simp only [Nat.pow_zero, Nat.div_one, Nat.pow_one] at *
    rcases hbad with h | h | h | h | h | h | h
    · have hw := w.isLt
      omega
    · omega
    · omega
    · omega
    · omega
    · exact h hd
    · cases h.symm.trans hc

end Sys2Proof.Machine
end

/-! ## What moves the reference unit: every row but the resets, the pulses, the position bit, the tick and the loss by
time leaves it, the straps and the commands waiting as they were -/

section
namespace Sys2Proof.Machine

open Sys2Proof.Safety

/-- The straps, the reference unit and the commands waiting are as they were. -/
structure ReferenceKept (s t : State) : Prop where
  straps : t.straps = s.straps
  ref : t.ref = s.ref
  pending : t.pending = s.pending

namespace ReferenceKept

theorem refl (s : State) : ReferenceKept s s := ⟨rfl, rfl, rfl⟩

theorem trans {s t u : State} (h : ReferenceKept s t) (k : ReferenceKept t u) : ReferenceKept s u :=
  ⟨k.straps.trans h.straps, k.ref.trans h.ref, k.pending.trans h.pending⟩

theorem of_boothOnly {s t : State} (h : BoothOnly s t) : ReferenceKept s t := ⟨h.straps, h.ref, h.pending⟩

theorem of_recorderOnly {s t : State} (h : RecorderOnly s t) : ReferenceKept s t :=
  ⟨h.straps, h.ref, by rw [h.state]⟩

theorem of_queueOnly {s t : State} (h : QueueOnly s t) : ReferenceKept s t := of_boothOnly (.of_queueOnly h)

end ReferenceKept

/-! ### Operations that the rows share -/

theorem referenceKept_answerWith (st : Status) (body : List Byte) (s : State) :
    ReferenceKept s (s.answerWith st body) := ⟨rfl, rfl, rfl⟩

theorem referenceKept_withReceiver (r : Receiver) (s : State) : ReferenceKept s (s.withReceiver r) :=
  ⟨rfl, rfl, rfl⟩

theorem referenceKept_setFlag (f : Flag) (s : State) : ReferenceKept s (s.setFlag f) := ⟨rfl, rfl, rfl⟩

theorem referenceKept_updatePeer (a : Addr) (f : Peer → Peer) (s : State) : ReferenceKept s (s.updatePeer a f) :=
  ⟨rfl, rfl, rfl⟩

theorem referenceKept_settle (s : State) : ReferenceKept s s.settle := .of_boothOnly (boothOnly_settle s)

theorem referenceKept_setBeaconTimer (s : State) : ReferenceKept s s.setBeaconTimer := ⟨rfl, rfl, rfl⟩

theorem referenceKept_giveBeacon (s : State) : ReferenceKept s s.giveBeacon := .of_queueOnly (queueOnly_giveBeacon s)

theorem referenceKept_give (dest : Addr) (m : Message) (s : State) : ReferenceKept s (s.give dest m) :=
  .of_queueOnly (queueOnly_give dest m s)

/-! ### Headers and frames -/

/-- The entry to MUTED empties the other blocks (R177). -/
theorem referenceKept_enterMuted (s : State) : ReferenceKept s (enterMuted s) := by
  have hemptied (u : State) : ReferenceKept u (emptyForMuted u) := .of_boothOnly (boothOnly_emptyForMuted u)
  have hblocks (u : State) : ReferenceKept u (mutedBlocks u) :=
    ⟨(hemptied u).straps, (hemptied u).ref, (hemptied u).pending⟩
  have hmuted := hblocks { s with station := mutedStation s.station }
  exact ⟨hmuted.straps, hmuted.ref, hmuted.pending⟩

theorem referenceKept_handSource (own : Bool) (source : Addr) (s : State) :
    ReferenceKept s (handSource own source s) := by
  rcases handSource_cases own source s with ⟨-, -, h⟩ | ⟨-, h⟩ <;> rw [h]
  · exact .refl s
  · rcases takeSource_cases source s with ⟨-, h⟩ | ⟨-, -, h⟩ | ⟨-, -, h⟩ <;> rw [h]
    · exact referenceKept_updatePeer _ _ s
    · exact referenceKept_setFlag _ _
    · exact (referenceKept_setFlag _ _).trans (referenceKept_enterMuted _)

theorem referenceKept_countFixed (fixed : Bool) (s : State) : ReferenceKept s (countFixed fixed s) := by
  cases fixed <;> exact ⟨rfl, rfl, rfl⟩

theorem referenceKept_countHdrBad (s : State) : ReferenceKept s s.countHdrBad := ⟨rfl, rfl, rfl⟩

theorem referenceKept_receiveHeader (header : BitVec 24) (check : Byte) (s : State) :
    ReferenceKept s (receiveHeader header check s) := by
  unfold receiveHeader
  split
  · exact ((referenceKept_countFixed _ s).trans (referenceKept_withReceiver _ _)).trans
      (referenceKept_handSource _ _ _)
  · exact ((referenceKept_countFixed _ s).trans (referenceKept_countHdrBad _)).trans (referenceKept_withReceiver _ _)

theorem referenceKept_judgedFrame (header : BitVec 24) (s : State) : ReferenceKept s (judgedFrame header s) := by
  unfold judgedFrame beginFrame
  split
  · exact referenceKept_withReceiver _ _
  · exact (referenceKept_handSource _ _ _).trans (referenceKept_withReceiver _ _)

/-- A good frame keeps what its owner's action keeps. -/
theorem referenceKept_takeFrame {act : State → State} (hact : ∀ u, ReferenceKept u (act u)) (h : FrameHead)
    (m : Message) (s : State) : ReferenceKept s (takeFrame h m act s) := by
  unfold takeFrame handOn
  split
  · exact referenceKept_withReceiver _ _
  · split
    · exact (referenceKept_judgedFrame _ s).trans (hact _)
    · exact referenceKept_judgedFrame _ s

theorem referenceKept_inBooth {act : State → State} (hact : ∀ u, ReferenceKept u (act u)) (s : State) :
    ReferenceKept s (inBooth act s) := by
  unfold inBooth
  split
  · exact hact s
  · exact .refl s

theorem referenceKept_inRecorder {act : State → State} (hact : ∀ u, ReferenceKept u (act u)) (s : State) :
    ReferenceKept s (inRecorder act s) := by
  unfold inRecorder
  split
  · exact hact s
  · exact .refl s

theorem referenceKept_inDesk {act : State → State} (hact : ∀ u, ReferenceKept u (act u)) (s : State) :
    ReferenceKept s (inDesk act s) := by
  unfold inDesk
  split
  · exact hact s
  · exact .refl s

theorem referenceKept_ifAddressed {act : State → State} (hact : ∀ u, ReferenceKept u (act u)) (h : FrameHead)
    (s : State) : ReferenceKept s (ifAddressed h act s) := by
  unfold ifAddressed
  split
  · exact .refl s
  · exact hact s

/-- A message for a booth's tables is taken by the booth or answered WRONG_ROLE (R28). -/
theorem referenceKept_forTables {act : State → State} (hact : ∀ u, ReferenceKept u (act u)) (kind : AnsweredKind)
    (h : FrameHead) (slot : Byte) (s : State) : ReferenceKept s (ifAddressed h (forTables kind h slot act) s) := by
  refine referenceKept_ifAddressed (fun u => ?_) h s
  unfold forTables
  split
  · exact hact u
  · exact referenceKept_give _ _ _

/-! ### The owners' actions -/

theorem referenceKept_takeGate (source : Addr) (m : GateMsg) (s : State) : ReferenceKept s (takeGate source m s) :=
  .of_boothOnly (((boothOnly_out _ s).trans (boothOnly_gateEvidence _ _)).trans (boothOnly_settle _))

theorem referenceKept_takeAbort (room : AbortRoom) (s : State) : ReferenceKept s (takeAbort room s) := by
  refine (referenceKept_inBooth (fun u => ?_) s).trans
    (referenceKept_inRecorder (fun u => .of_recorderOnly (recorderOnly_abortReservations room u)) _)
  unfold abortBooth
  split
  · exact .of_boothOnly ((boothOnly_abortLookahead u).trans (boothOnly_settle _))
  · exact .refl u

theorem referenceKept_giveReply (dest : Addr) (r : ReplyMsg) (s : State) : ReferenceKept s (giveReply dest r s) :=
  referenceKept_give _ _ s

theorem referenceKept_changeRange (range : Nat × Nat) (f : Option Cue → Option Cue) (s : State) :
    ReferenceKept s (s.changeRange range f) := ⟨rfl, rfl, rfl⟩

theorem referenceKept_tableChanged (s : State) : ReferenceKept s (tableChanged s) :=
  .of_boothOnly (boothOnly_tableChanged s)

theorem referenceKept_takeLoad (source : Addr) (m : LoadMsg) (s : State) : ReferenceKept s (takeLoad source m s) := by
  unfold takeLoad
  split
  · exact ((ReferenceKept.of_boothOnly (boothOnly_setCue _ _ s)).trans (referenceKept_giveReply _ _ _)).trans
      (referenceKept_tableChanged _)
  · exact referenceKept_giveReply _ _ s

theorem referenceKept_takeClear (source : Addr) (m : RangeMsg) (s : State) :
    ReferenceKept s (takeClear source m s) := by
  unfold takeClear
  split
  · split
    · exact referenceKept_giveReply _ _ s
    · exact ((referenceKept_changeRange _ _ s).trans (referenceKept_giveReply _ _ _)).trans
        (referenceKept_tableChanged _)
  · exact referenceKept_giveReply _ _ s

theorem referenceKept_takeSelectOn (source : Addr) (m : RangeMsg) (s : State) :
    ReferenceKept s (takeSelectOn source m s) := by
  unfold takeSelectOn
  split
  · exact ((referenceKept_changeRange _ _ s).trans (referenceKept_giveReply _ _ _)).trans
      (referenceKept_tableChanged _)
  · exact referenceKept_giveReply _ _ s

theorem referenceKept_deselectEntries (range : Nat × Nat) (s : State) : ReferenceKept s (deselectEntries range s) :=
  .of_boothOnly (.foldl (fun t slot => boothOnly_deselectEntry slot t) _ _)

theorem referenceKept_takeSelectOff (source : Addr) (m : RangeMsg) (s : State) :
    ReferenceKept s (takeSelectOff source m s) := by
  unfold takeSelectOff
  split
  · exact (((referenceKept_changeRange _ _ s).trans (referenceKept_deselectEntries _ _)).trans
      (referenceKept_giveReply _ _ _)).trans (referenceKept_tableChanged _)
  · exact referenceKept_giveReply _ _ s

theorem referenceKept_takeMarkMessage (source : Addr) (m : MarkMsg) (s : State) :
    ReferenceKept s (takeMarkMessage source m s) := by
  refine .trans ?_ (referenceKept_giveReply _ _ _)
  unfold markTake
  split
  · exact .refl s
  · split
    · exact .refl s
    · exact .of_boothOnly ((boothOnly_updateRecord _ _ _).trans (boothOnly_updateCue _ _ _))

theorem referenceKept_storeBeacon (source : Addr) (m : BeaconMsg) (s : State) :
    ReferenceKept s (storeBeacon source m s) := ⟨rfl, rfl, rfl⟩

theorem referenceKept_takeDeskNote (source : Addr) (m : TakeNoteMsg) (s : State) :
    ReferenceKept s (takeDeskNote source m s) := ⟨rfl, rfl, rfl⟩

theorem referenceKept_placeReply (source : Addr) (m : ReplyMsg) (s : State) :
    ReferenceKept s (placeReply source m s) := by
  unfold placeReply
  split
  · exact ⟨rfl, rfl, rfl⟩
  · exact referenceKept_setFlag _ _

/-! ### The line unit -/

theorem referenceKept_quietLine (n : Nat) (s : State) : ReferenceKept s (quietLine n s) := by
  rcases quietLine_cases n s with ⟨-, h⟩ | ⟨-, h⟩ <;> rw [h] <;> exact ⟨rfl, rfl, rfl⟩

theorem referenceKept_cutAfterHeader (h : BitVec 24) (bits : List Bool) (s : State) :
    ReferenceKept s (cutAfterHeader h bits s) := by
  unfold cutAfterHeader
  split <;> exact ⟨rfl, rfl, rfl⟩

theorem referenceKept_cutBeforeRow (bits : List Bool) (s : State) : ReferenceKept s (cutBeforeRow bits s) := by
  unfold cutBeforeRow
  split
  · exact (referenceKept_receiveHeader _ _ s).trans (referenceKept_cutAfterHeader _ _ _)
  · exact referenceKept_receiveHeader _ _ s

theorem referenceKept_takeCutShort (bits : List Bool) (s : State) : ReferenceKept s (takeCutShort bits s) := by
  unfold takeCutShort cutLate
  split
  · exact .refl s
  · split
    · exact ⟨rfl, rfl, rfl⟩
    · split
      · exact referenceKept_cutAfterHeader _ _ s
      · exact .refl s
      · exact .refl s
      · exact referenceKept_cutBeforeRow _ s
      · exact referenceKept_cutBeforeRow _ s

theorem referenceKept_attemptStart (time : LineTime) (s : State) :
    ReferenceKept s (turnBusy time.busy (attemptHead (quietLine time.quiet s))) := by
  have hhead : ReferenceKept (quietLine time.quiet s) (attemptHead (quietLine time.quiet s)) := by
    rcases attemptHead_cases (quietLine time.quiet s) with ⟨m, rest, -, -, -, -, h⟩ | h <;> rw [h]
    · exact ⟨rfl, rfl, rfl⟩
    · exact .refl _
  refine ((referenceKept_quietLine _ s).trans hhead).trans ?_
  rcases turnBusy_cases time.busy (attemptHead (quietLine time.quiet s)) with ⟨-, -, -, h⟩ | h <;> rw [h]
  · exact referenceKept_withReceiver _ _
  · exact .refl _

theorem referenceKept_collide (m : TxMsg) (s : State) : ReferenceKept s (collide m s) := by
  unfold collide
  split <;> exact ⟨rfl, rfl, rfl⟩

theorem referenceKept_sentMessage (m : TxMsg) (s : State) : ReferenceKept s (sentMessage m s) := by
  unfold sentMessage
  split
  · unfold beaconSent
    split <;> exact ⟨rfl, rfl, rfl⟩
  · refine .trans (t := dropAttempted s) ⟨rfl, rfl, rfl⟩ ?_
    unfold actOwn
    split
    · exact referenceKept_takeAbort _ _
    · exact .refl _

theorem referenceKept_takeBadFrame (header : BitVec 24) (payload : List Byte) (crc : Word16) (s : State) :
    ReferenceKept s (takeBadFrame header payload crc s) := by
  unfold takeBadFrame
  split
  · exact (referenceKept_judgedFrame _ s).trans ⟨rfl, rfl, rfl⟩
  · exact (referenceKept_judgedFrame _ s).trans (referenceKept_setFlag _ _)
  · exact .refl s

/-! ### The station unit and the panel port -/

theorem referenceKept_claimsPeerLost (p : Peer) (s : State) : ReferenceKept s (claimsPeerLost p s) := by
  unfold claimsPeerLost
  split
  · split
    · exact .of_boothOnly (boothOnly_entries _ s)
    · exact .refl s
  · exact .refl s

theorem referenceKept_losePeer (a : Addr) (p : Peer) (s : State) : ReferenceKept s (losePeer a p s) :=
  ((((referenceKept_updatePeer a _ s).trans (referenceKept_claimsPeerLost p _)).trans
    (.of_boothOnly (boothOnly_out _ _))).trans (.of_recorderOnly (recorderOnly_reservationsPeerLost a _))).trans
    (referenceKept_settle _)

theorem referenceKept_answerExpired (e : Entry) (s : State) : ReferenceKept s (answerExpired e s) := by
  unfold answerExpired
  split
  · exact ⟨rfl, rfl, rfl⟩
  · split
    · exact (ReferenceKept.of_boothOnly (boothOnly_updateEntry _ _ s)).trans (referenceKept_give _ _ _)
    · exact .refl s

theorem referenceKept_resetEngine (s : State) : ReferenceKept s (resetEngine s) := by
  have hemptied : ReferenceKept s (engineEmptied s) :=
    ((ReferenceKept.of_boothOnly (boothOnly_emptyForEngine s)).trans
      (.of_recorderOnly (recorderOnly_engineTracks _))).trans (.of_boothOnly (boothOnly_out _ _))
  exact (hemptied.trans (.of_boothOnly (boothOnly_recompute _))).trans (referenceKept_settle _)

theorem referenceKept_withStation (u : StationUnit) (s : State) : ReferenceKept s { s with station := u } :=
  ⟨rfl, rfl, rfl⟩

theorem referenceKept_enterJoining (s : State) : ReferenceKept s (enterJoining s) :=
  (referenceKept_withStation _ s).trans (referenceKept_settle _)

theorem referenceKept_enterActive (s : State) : ReferenceKept s (enterActive s) :=
  (((referenceKept_withStation _ s).trans (referenceKept_giveBeacon _)).trans (referenceKept_setBeaconTimer _)).trans
    (referenceKept_settle _)

theorem referenceKept_judgeSend (kind dest : Byte) (payload : List Byte) (s : State) :
    ReferenceKept s (judgeSend kind dest payload s).1 := by
  unfold judgeSend
  split
  · exact .refl s
  · split
    · exact .refl s
    · split
      · unfold sendMessage
        split
        · exact .refl s
        · split
          · unfold panelOffer
            split <;> exact ⟨rfl, rfl, rfl⟩
          · exact .refl s
      · exact .refl s

theorem referenceKept_popInbox (s : State) : ReferenceKept s (popInbox s) := by
  unfold popInbox
  split <;> exact ⟨rfl, rfl, rfl⟩

theorem referenceKept_takeSweep (onOff : Byte) (s : State) : ReferenceKept s (takeSweep onOff s) := by
  unfold takeSweep
  split <;> exact ⟨rfl, rfl, rfl⟩

/-! ### Every row -/

/-- The rows that reach the reference unit: the resets, the pulses, the position bit, the tick and the loss by time. -/
def reachesReference : Instr → Bool
  | .hardwareReset _ | .resetRestart _ | .resetClear | .linePulse | .framePulse _ | .positionBit _ | .tick
  | .lossByTime => true
  | _ => false

/-- Every other row leaves the straps, the reference unit and the commands waiting as they were. -/
theorem exec_referenceKept {c : Instr} {s t : State} (hc : reachesReference c = false) (h : exec c s = .next t) :
    ReferenceKept s t := by
  cases c
  case hardwareReset | resetRestart | resetClear | linePulse | framePulse | positionBit | tick | lossByTime => cases hc
  all_goals obtain rfl := Host.Outcome.next.inj h
  case status => exact referenceKept_answerWith _ _ s
  case read => exact referenceKept_answerWith _ _ s
  case popInbox => exact referenceKept_popInbox s
  case send => exact (referenceKept_judgeSend _ _ _ s).trans (referenceKept_answerWith _ _ _)
  case ackFlags => exact ⟨rfl, rfl, rfl⟩
  case setMask => exact ⟨rfl, rfl, rfl⟩
  case resetEngine => exact (referenceKept_resetEngine s).trans (referenceKept_answerWith _ _ _)
  case releaseHold =>
    split
    · exact (referenceKept_enterJoining s).trans (referenceKept_answerWith _ _ _)
    · exact referenceKept_answerWith _ _ s
  case sweep => exact referenceKept_takeSweep _ s
  case badRequest => exact referenceKept_answerWith _ _ s
  case transactionAbandoned => exact ⟨rfl, rfl, rfl⟩
  case answerTimerExpiry =>
    unfold takeAnswerExpiry
    split
    · split
      · exact referenceKept_answerExpired _ s
      · exact .refl s
    · exact .refl s
  case joinTimerExpiry =>
    split
    · exact referenceKept_enterActive s
    · exact .refl s
  case beaconTimerExpiry =>
    split
    · exact (referenceKept_giveBeacon s).trans (referenceKept_setBeaconTimer _)
    · exact .refl s
  case peerLoss =>
    unfold takePeerLoss
    split
    · split
      · exact referenceKept_losePeer _ _ s
      · exact .refl s
    · exact .refl s
  case headerReceived =>
    split
    · exact referenceKept_withReceiver _ s
    · exact referenceKept_receiveHeader _ _ s
  case cutShortFrame =>
    exact ((referenceKept_takeCutShort _ s).trans (referenceKept_withReceiver _ _)).trans (referenceKept_quietLine _ _)
  case beacon => exact referenceKept_takeFrame (referenceKept_storeBeacon _ _) _ _ s
  case claim =>
    exact referenceKept_takeFrame
      (referenceKept_inRecorder fun u => .of_recorderOnly (recorderOnly_takeClaim _ _ u)) _ _ s
  case answer =>
    exact referenceKept_takeFrame
      (referenceKept_ifAddressed (referenceKept_inBooth fun u => .of_boothOnly (boothOnly_takeAnswer _ u)) _) _ _ s
  case release =>
    exact referenceKept_takeFrame
      (referenceKept_inRecorder fun u => .of_recorderOnly (recorderOnly_takeRelease _ _ u)) _ _ s
  case gate => exact referenceKept_takeFrame (referenceKept_inBooth (referenceKept_takeGate _ _)) _ _ s
  case abort => exact referenceKept_takeFrame (referenceKept_takeAbort _) _ _ s
  case load => exact referenceKept_takeFrame (referenceKept_forTables (referenceKept_takeLoad _ _) _ _ _) _ _ s
  case clear => exact referenceKept_takeFrame (referenceKept_forTables (referenceKept_takeClear _ _) _ _ _) _ _ s
  case selectOn => exact referenceKept_takeFrame (referenceKept_forTables (referenceKept_takeSelectOn _ _) _ _ _) _ _ s
  case selectOff =>
    exact referenceKept_takeFrame (referenceKept_forTables (referenceKept_takeSelectOff _ _) _ _ _) _ _ s
  case digest =>
    exact referenceKept_takeFrame (referenceKept_forTables (fun u => referenceKept_give _ _ u) _ _ _) _ _ s
  case mark => exact referenceKept_takeFrame (referenceKept_forTables (referenceKept_takeMarkMessage _ _) _ _ _) _ _ s
  case reply => exact referenceKept_takeFrame (referenceKept_ifAddressed (referenceKept_placeReply _ _) _) _ _ s
  case takeNote => exact referenceKept_takeFrame (referenceKept_inDesk (referenceKept_takeDeskNote _ _)) _ _ s
  case attemptStart => exact referenceKept_attemptStart _ s
  case collision =>
    split
    · exact referenceKept_collide _ s
    · exact .refl s
  case frameSent =>
    split
    · exact (referenceKept_sentMessage _ s).trans (referenceKept_withReceiver _ _)
    · exact .refl s
  case frameJudgedBad =>
    split
    · exact referenceKept_withReceiver _ s
    · exact referenceKept_takeBadFrame _ _ _ s
  case transactionEnd => exact ⟨rfl, rfl, rfl⟩

end Sys2Proof.Machine
end

/-! ## The reference unit at a boundary, at a pulse and at a position bit (R3 to R8, R13 to R21) -/

section
namespace Sys2Proof.Machine

open Sys2Proof.Safety

/-! ### What a report leaves as it was (R22) -/

/-- Nothing has changed outside what a boundary report, or an entry to UNLOCKED, reaches, and every flag set stays
set. -/
structure ReportOnly (s t : State) : Prop where
  kept : keptByReports s t
  flags : flagsKept s t

namespace ReportOnly

theorem trans {s t u : State} (h : ReportOnly s t) (k : ReportOnly t u) : ReportOnly s u := by
  refine ⟨?_, flagsKept_trans h.flags k.flags⟩
  have hk : keptByReports t u := k.kept
  have hh : keptByReports s t := h.kept
  unfold keptByReports at *
  exact hk.trans (by rw [hh])

theorem of_boothOnly {s t : State} (h : BoothOnly s t) : ReportOnly s t :=
  ⟨h.state.trans (by rw [h.state]), h.flags⟩

theorem of_recorderOnly {s t : State} (h : RecorderOnly s t) : ReportOnly s t :=
  ⟨h.state.trans (by rw [h.state]), h.flags⟩

theorem of_queueOnly {s t : State} (h : QueueOnly s t) : ReportOnly s t := of_boothOnly (.of_queueOnly h)

theorem refl (s : State) : ReportOnly s s := of_queueOnly (.refl s)

theorem straps {s t : State} (h : ReportOnly s t) : t.straps = s.straps := by rw [h.kept]

theorem station {s t : State} (h : ReportOnly s t) : t.station = s.station := by rw [h.kept]

theorem pending {s t : State} (h : ReportOnly s t) : t.pending = s.pending := by rw [h.kept]

end ReportOnly

theorem reportOnly_ref (r : RefUnit) (s : State) : ReportOnly s { s with ref := r } :=
  ⟨rfl, flagsKept_of_sticky rfl⟩

theorem queueOnly_setFlagIf (c : Bool) (f : Flag) (s : State) : QueueOnly s (s.setFlagIf c f) := by
  cases c
  · exact .refl s
  · exact queueOnly_setFlag f s

theorem setFlagIf_ref (c : Bool) (f : Flag) (s : State) : (s.setFlagIf c f).ref = s.ref := by cases c <;> rfl

theorem roleBoundary_ref (r : Report) (s : State) : (roleBoundary r s).ref = s.ref := by
  rcases roleBoundary_cases r s with h | h
  · exact h.ref
  · exact h.ref

theorem reportOnly_roleBoundary (r : Report) (s : State) : ReportOnly s (roleBoundary r s) := by
  rcases roleBoundary_cases r s with h | h
  · exact .of_boothOnly h
  · exact .of_recorderOnly h

/-- Publishing a boundary reaches the other blocks alone: the reference unit has already moved (R22). -/
theorem publishBoundary_ref (r : Report) (s : State) : (publishBoundary r s).ref = s.ref := by
  unfold publishBoundary
  rw [(boothOnly_settleBoundary _).ref, roleBoundary_ref, (BoothOnly.of_queueOnly (queueOnly_reportBeacon r _)).ref]

theorem reportOnly_publishBoundary (r : Report) (s : State) : ReportOnly s (publishBoundary r s) :=
  (((ReportOnly.of_boothOnly (boothOnly_out _ s)).trans (.of_queueOnly (queueOnly_reportBeacon r _))).trans
    (reportOnly_roleBoundary r _)).trans (.of_boothOnly (boothOnly_settleBoundary _))

theorem refBoundary_ref (accepted : Bool) (s : State) : (refBoundary accepted s).ref = s.refAfter accepted := by
  rw [refBoundary, setFlagIf_ref, setFlagIf_ref]

theorem reportOnly_refBoundary (accepted : Bool) (s : State) : ReportOnly s (refBoundary accepted s) :=
  ((reportOnly_ref _ s).trans (.of_queueOnly (queueOnly_setFlagIf _ _ _))).trans
    (.of_queueOnly (queueOnly_setFlagIf _ _ _))

theorem frameBoundary_ref (accepted : Bool) (s : State) : (frameBoundary accepted s).ref = s.refAfter accepted := by
  unfold frameBoundary
  rw [publishBoundary_ref, refBoundary_ref]

theorem reportOnly_frameBoundary (accepted : Bool) (s : State) : ReportOnly s (frameBoundary accepted s) :=
  (reportOnly_refBoundary accepted s).trans (reportOnly_publishBoundary _ _)

theorem raiseLine_ref (s : State) : (raiseLine s).ref = { s.ref with lineCounter := s.ref.lineCounter + 1 } := by
  rw [raiseLine, setFlagIf_ref]

theorem reportOnly_raiseLine (s : State) : ReportOnly s (raiseLine s) :=
  (reportOnly_ref _ s).trans (.of_queueOnly (queueOnly_setFlagIf _ _ _))

theorem boundaryDue_raiseLine (s : State) :
    (raiseLine s).boundaryDue = decide (linesOf s.straps.profile + 4 ≤ s.ref.lineCounter + 1) := by
  simp only [State.boundaryDue, raiseLine_ref, (reportOnly_raiseLine s).straps]

/-- A line pulse below the count that synthesizes a boundary is counted (R3). -/
theorem countLine_of_below {s : State} (h : s.ref.lineCounter + 1 < linesOf s.straps.profile + 4) :
    countLine s = (raiseLine s).fixKeyed := by
  have hd : (raiseLine s).boundaryDue = false := by
    rw [boundaryDue_raiseLine]
    exact decide_eq_false (by omega)
  simp [countLine, hd]

/-- A line pulse at that count synthesizes a boundary (R5). -/
theorem countLine_of_due {s : State} (h : linesOf s.straps.profile + 4 ≤ s.ref.lineCounter + 1) :
    countLine s = (frameBoundary false (raiseLine s)).fixKeyed := by
  have hd : (raiseLine s).boundaryDue = true := by
    rw [boundaryDue_raiseLine]
    exact decide_eq_true h
  simp [countLine, hd]

/-- A boundary begins from the counts before the line pulse that synthesizes it: the line counter is not among them. -/
theorem refAfter_raiseLine (accepted : Bool) (s : State) : (raiseLine s).refAfter accepted = s.refAfter accepted := by
  unfold State.refAfter State.lockStepOf State.day
  rw [raiseLine_ref, (reportOnly_raiseLine s).straps]
  rfl

theorem countLine_ref_of_below {s : State} (h : s.ref.lineCounter + 1 < linesOf s.straps.profile + 4) :
    (countLine s).ref = { s.ref with lineCounter := s.ref.lineCounter + 1 } := by
  rw [countLine_of_below h, (boothOnly_fixKeyed _).ref, raiseLine_ref]

theorem countLine_ref_of_due {s : State} (h : linesOf s.straps.profile + 4 ≤ s.ref.lineCounter + 1) :
    (countLine s).ref = s.refAfter false := by
  rw [countLine_of_due h, (boothOnly_fixKeyed _).ref, frameBoundary_ref, refAfter_raiseLine]

theorem reportOnly_countLine (s : State) : ReportOnly s (countLine s) := by
  unfold countLine
  split
  · exact ((reportOnly_raiseLine s).trans (reportOnly_frameBoundary _ _)).trans (.of_boothOnly (boothOnly_fixKeyed _))
  · exact (reportOnly_raiseLine s).trans (.of_boothOnly (boothOnly_fixKeyed _))

/-- A loss by time is published as an entry to UNLOCKED, and the reference unit holds the values of R19. -/
theorem unlockByTime_ref (s : State) : (unlockByTime s).ref = enterUnlocked s.ref := by
  have hrole (r : Report) (u : State) : (roleUnlock r u).ref = u.ref := by
    unfold roleUnlock
    split
    · exact (boothOnly_transportAbort r u).ref
    · split
      · exact ((recorderOnly_protect r u).trans (recorderOnly_evaluateTracks _)).ref
      · rfl
  unfold unlockByTime
  rw [(boothOnly_settle _).ref, hrole, (BoothOnly.of_queueOnly (queueOnly_reportBeacon _ _)).ref]
  rfl

theorem reportOnly_unlockByTime (s : State) : ReportOnly s (unlockByTime s) := by
  have hrole (r : Report) (u : State) : ReportOnly u (roleUnlock r u) := by
    unfold roleUnlock
    split
    · exact .of_boothOnly (boothOnly_transportAbort r u)
    · split
      · exact .of_recorderOnly ((recorderOnly_protect r u).trans (recorderOnly_evaluateTracks _))
      · exact .refl u
  exact ((((reportOnly_ref _ s).trans (.of_queueOnly (queueOnly_setFlag _ _))).trans
    (.of_queueOnly (queueOnly_reportBeacon _ _))).trans (hrole _ _)).trans (.of_boothOnly (boothOnly_settle _))

/-! ### Deltas and predictions (R16, R20) -/

@[simp] theorem classify_unlocked (h : List Int) : classify .unlocked h = .noRef := rfl

@[simp] theorem classify_acquiring (h : List Int) : classify .acquiring h = .noRef := rfl

/-- The prediction moves the position by no frame, one or two (R16). -/
theorem predictedDelta_cases (h : List Int) :
    predictedDelta h = 0 ∨ predictedDelta h = 1 ∨ predictedDelta h = 2 := by
  unfold predictedDelta
  split
  · split <;> simp_all
  · simp

@[simp] theorem smallDelta_predictedDelta (h : List Int) : smallDelta (predictedDelta h) = true := by
  rcases predictedDelta_cases h with e | e | e <;> simp [e, smallDelta]

theorem length_appendDelta_le {d : Int} {h : List Int} (hl : h.length ≤ 8) : (appendDelta d h).length ≤ 8 := by
  unfold appendDelta
  split <;> simp <;> omega

theorem mem_appendDelta {d x : Int} {h : List Int} (hx : x ∈ appendDelta d h) : x = d ∨ x ∈ h := by
  unfold appendDelta at hx
  split at hx <;> simp only [List.mem_append, List.mem_singleton] at hx
  · tauto
  · exact hx.symm.imp_right List.mem_of_mem_drop

theorem predictedPosition_lt {D : Nat} (hD : 0 < D) (p : Nat) (h : List Int) : predictedPosition D p h < D :=
  Nat.mod_lt _ hD

/-! ### The lock step (R13 to R17, R19): what it keeps in range, and what it leaves -/

/-- What a lock step moves: position, history, run count and holdover count, in their ranges. -/
structure LockRange (D : Nat) (r : RefUnit) : Prop where
  position : r.position < D
  length : r.history.length ≤ 8
  deltas : ∀ d ∈ r.history, -10 ≤ d ∧ d ≤ 10
  run : r.runCount ≤ 2
  holdover : r.holdoverCount ≤ 5

theorem lockRange_stepTo {D n : Nat} {d : Int} {r : RefUnit} (hn : n < D) (h : LockRange D r) :
    LockRange D (stepTo n d r).ref := by
  unfold stepTo movedTo
  by_cases hd : smallDelta d
  · refine ⟨hn, by simpa [hd] using length_appendDelta_le h.length, ?_, h.run, h.holdover⟩
    intro x hx
    rcases mem_appendDelta (by simpa [hd] using hx) with rfl | hx
    · simpa [smallDelta] using hd
    · exact h.deltas x hx
  · exact ⟨hn, by simp [hd], by simp [hd], h.run, h.holdover⟩

theorem lockRange_stepPredicted {D : Nat} {r : RefUnit} (h : LockRange D r) : LockRange D (stepPredicted D r).ref :=
  lockRange_stepTo (predictedPosition_lt (Nat.zero_lt_of_lt h.position) _ _) h

theorem lockRange_enterUnlocked {D : Nat} {r : RefUnit} (h : LockRange D r) : LockRange D (enterUnlocked r) :=
  ⟨h.position, h.length, h.deltas, Nat.zero_le _, Nat.zero_le _⟩

theorem lockRange_boundaryUnlocked {D : Nat} {r : RefUnit} (accepted : Bool) (h : LockRange D r) :
    LockRange D (boundaryUnlocked accepted r).ref := by
  unfold boundaryUnlocked
  split
  · exact ⟨h.position, h.length, h.deltas, Nat.zero_le _, h.holdover⟩
  · exact h

theorem lockRange_boundaryAcquiring {D : Nat} {r : RefUnit} {word : Option Nat} (hw : ∀ n, word = some n → n < D)
    (h : LockRange D r) : LockRange D (boundaryAcquiring word r).ref := by
  unfold boundaryAcquiring
  split
  · next n =>
    split
    · next hrun => exact ⟨h.position, h.length, h.deltas, Nat.le_of_lt hrun, h.holdover⟩
    · exact ⟨hw n rfl, Nat.zero_le _, by simp [stepStill], Nat.le_refl _, h.holdover⟩
  · exact ⟨h.position, h.length, h.deltas, Nat.zero_le _, h.holdover⟩

theorem lockRange_boundaryLocked {D : Nat} {r : RefUnit} {word : Option Nat} (hw : ∀ n, word = some n → n < D)
    (h : LockRange D r) : LockRange D (boundaryLocked D word r).ref := by
  unfold boundaryLocked
  split
  · next n => exact lockRange_stepTo (hw n rfl) h
  · exact lockRange_stepPredicted ⟨h.position, h.length, h.deltas, h.run, by simp⟩

theorem lockRange_boundaryHoldover {D : Nat} {r : RefUnit} {word : Option Nat} (hw : ∀ n, word = some n → n < D)
    (h : LockRange D r) : LockRange D (boundaryHoldover D word r).ref := by
  have hfound : LockRange D { r with lock := .locked, holdoverCount := 0 } :=
    ⟨h.position, h.length, h.deltas, h.run, Nat.zero_le _⟩
  unfold boundaryHoldover
  split
  · next n =>
    split
    · exact lockRange_stepTo (hw n rfl) hfound
    · exact lockRange_stepTo (hw n rfl) hfound
  · split
    · next hc => exact lockRange_stepPredicted ⟨h.position, h.length, h.deltas, h.run, hc⟩
    · exact lockRange_enterUnlocked h

theorem lockRange_lockStep {D : Nat} {r : RefUnit} {word : Option Nat} (accepted : Bool)
    (hw : ∀ n, word = some n → n < D) (h : LockRange D r) : LockRange D (lockStep D accepted word r).ref := by
  unfold lockStep
  split
  · exact lockRange_boundaryUnlocked accepted h
  · split
    · exact lockRange_enterUnlocked h
    · exact lockRange_boundaryAcquiring hw h
  · split
    · exact lockRange_enterUnlocked h
    · exact lockRange_boundaryLocked hw h
  · split
    · exact lockRange_enterUnlocked h
    · exact lockRange_boundaryHoldover hw h

/-- The counts of the frame that a lock step leaves as they are, but for the synthesized count, which an entry to
UNLOCKED sets to 0. -/
structure FrameCountsKept (r r' : RefUnit) : Prop where
  line : r'.lineCounter = r.lineCounter
  bits : r'.shiftBits = r.shiftBits
  count : r'.shiftCount = r.shiftCount
  word : r'.frameWord = r.frameWord
  quiet : r'.quietTicks = r.quietTicks
  synth : r'.synthCount = r.synthCount ∨ r'.lock = .unlocked ∧ r'.synthCount = 0

theorem frameCountsKept_lockStep (D : Nat) (accepted : Bool) (word : Option Nat) (r : RefUnit) :
    FrameCountsKept r (lockStep D accepted word r).ref := by
  have hunlocked : FrameCountsKept r (stepStill (enterUnlocked r)).ref :=
    ⟨rfl, rfl, rfl, rfl, rfl, .inr ⟨rfl, rfl⟩⟩
  unfold lockStep
  split
  · cases accepted <;> exact ⟨rfl, rfl, rfl, rfl, rfl, .inl rfl⟩
  · split
    · exact hunlocked
    · unfold boundaryAcquiring
      split
      · split <;> exact ⟨rfl, rfl, rfl, rfl, rfl, .inl rfl⟩
      · exact ⟨rfl, rfl, rfl, rfl, rfl, .inl rfl⟩
  · split
    · exact hunlocked
    · cases word <;> exact ⟨rfl, rfl, rfl, rfl, rfl, .inl rfl⟩
  · split
    · exact hunlocked
    · unfold boundaryHoldover
      split
      · split <;> exact ⟨rfl, rfl, rfl, rfl, rfl, .inl rfl⟩
      · split
        · exact ⟨rfl, rfl, rfl, rfl, rfl, .inl rfl⟩
        · exact hunlocked

/-- A boundary opens the new frame: its line counter, its shifter and its word (R6). -/
theorem frameCountsKept_refAfter (accepted : Bool) (s : State) :
    FrameCountsKept (openFrame accepted s.ref) (s.refAfter accepted) := by
  obtain ⟨hline, hbits, hcount, hword, hquiet, hsynth⟩ :=
    frameCountsKept_lockStep s.day accepted s.ref.frameWord (openFrame accepted s.ref)
  exact ⟨hline, hbits, hcount, hword, hquiet, hsynth⟩

theorem refAfter_transport (accepted : Bool) (s : State) :
    (s.refAfter accepted).transport = classify (s.refAfter accepted).lock (s.refAfter accepted).history := rfl

/-! ### The ranges of the reference unit -/

theorem refInv_of_kept {s t : State} (hk : ReferenceKept s t) (h : RefInv s) : RefInv t := by
  unfold RefInv State.day at *
  rw [hk.straps, hk.ref]
  exact h

/-- A word that has been judged valid lies in the day. -/
theorem frameWord_lt {s : State} (h : RefInv s) {n : Nat} (hn : s.ref.frameWord = some n) : n < s.day := by
  obtain ⟨-, -, -, -, -, -, -, -, -, hword, -⟩ := h
  simpa [hn] using hword

/-- A boundary leaves the reference unit in its ranges, from a state that is in them but for the line counter. -/
theorem refInv_of_refAfter {s t : State} {accepted : Bool} (h : RefInv s) (hs : t.straps = s.straps)
    (hr : t.ref = s.refAfter accepted) : RefInv t := by
  have hword : ∀ n, s.ref.frameWord = some n → n < s.day := fun n => frameWord_lt h
  obtain ⟨hpos, hlen, hdeltas, -, -, hrun, hhold, hsynth, hquiet, -, -⟩ := h
  have hrange : LockRange s.day (s.lockStepOf accepted).ref :=
    lockRange_lockStep accepted hword ⟨hpos, hlen, hdeltas, hrun, hhold⟩
  obtain ⟨hline, -, hcount, hframe, hq, hsy⟩ := frameCountsKept_refAfter accepted s
  have hday : t.day = s.day := by rw [State.day, hs, State.day]
  have hsynth3 : (openFrame accepted s.ref).synthCount ≤ 3 := by
    cases accepted <;> simp [openFrame]
  have hquiet10 : (openFrame accepted s.ref).quietTicks ≤ 10 := by
    cases accepted <;> simp [openFrame, hquiet]
  unfold RefInv
  rw [hr, hday, hs]
  refine ⟨hrange.position, hrange.length, hrange.deltas, ?_, ?_, hrange.run, hrange.holdover, ?_, ?_, ?_, rfl⟩
  · rw [hline]
    exact Nat.succ_pos _
  · rw [hcount]
    exact Nat.zero_le _
  · rcases hsy with e | ⟨-, e⟩ <;> omega
  · omega
  · rw [hframe]
    rfl

theorem refInv_countLine {s : State} (h : RefInv s) : RefInv (countLine s) := by
  by_cases hb : s.ref.lineCounter + 1 < linesOf s.straps.profile + 4
  · have hr := countLine_ref_of_below hb
    have hs := (reportOnly_countLine s).straps
    obtain ⟨hpos, hlen, hdeltas, -, hrest⟩ := h
    unfold RefInv State.day at *
    rw [hr, hs]
    exact ⟨hpos, hlen, hdeltas, hb, hrest⟩
  · exact refInv_of_refAfter h (reportOnly_countLine s).straps (countLine_ref_of_due (by omega))

theorem refInv_refusedPulse {s : State} (h : RefInv s) : RefInv (refusedPulse s) := by
  unfold refusedPulse
  split
  · obtain ⟨hpos, hlen, hdeltas, -, -, hrun, hhold, hsynth, hquiet, -, htransport⟩ := h
    exact ⟨hpos, hlen, hdeltas, Nat.succ_pos _, Nat.zero_le _, hrun, hhold, hsynth, hquiet, rfl, htransport⟩
  · exact h

theorem refInv_takeFramePulse {withLine : Bool} {s : State} (h : RefInv s) : RefInv (takeFramePulse withLine s) := by
  unfold takeFramePulse
  split
  · exact refInv_of_refAfter h (reportOnly_frameBoundary true s).straps (frameBoundary_ref true s)
  · split
    · exact refInv_countLine (refInv_refusedPulse h)
    · exact refInv_refusedPulse h

theorem refInv_completeWord {s : State} (h : RefInv s) : RefInv (completeWord s) := by
  unfold completeWord
  split
  · split
    · next n hn =>
      obtain ⟨hpos, hlen, hdeltas, hline, hcount, hrun, hhold, hsynth, hquiet, -, htransport⟩ := h
      have hword : ((some n).all fun n => decide (n < s.day)) = true := decide_eq_true (judgeWord_lt_day hn)
      exact ⟨hpos, hlen, hdeltas, hline, hcount, hrun, hhold, hsynth, hquiet, hword, htransport⟩
    · exact h
  · exact h

theorem refInv_takePositionBit {bit : Bool} {s : State} (h : RefInv s) : RefInv (takePositionBit bit s) := by
  have hshifted (hc : s.ref.shiftCount ≤ 31) : RefInv { s with ref := shiftIn bit s.ref } := by
    obtain ⟨hpos, hlen, hdeltas, hline, -, hrest⟩ := h
    exact ⟨hpos, hlen, hdeltas, hline, Nat.succ_le_succ hc, hrest⟩
  unfold takePositionBit
  split
  · exact hshifted (by omega)
  · split
    · exact refInv_completeWord (hshifted (by omega))
    · exact h

theorem refInv_ticked {s : State} (h : RefInv s) : RefInv (ticked s) := by
  obtain ⟨hpos, hlen, hdeltas, hline, hcount, hrun, hhold, hsynth, -, hrest⟩ := h
  exact ⟨hpos, hlen, hdeltas, hline, hcount, hrun, hhold, hsynth, Nat.min_le_right _ _, hrest⟩

theorem refInv_unlockByTime {s : State} (h : RefInv s) : RefInv (unlockByTime s) := by
  have hr := unlockByTime_ref s
  have hs := (reportOnly_unlockByTime s).straps
  obtain ⟨hpos, hlen, hdeltas, hline, hcount, -, -, -, hquiet, hword, -⟩ := h
  unfold RefInv State.day at *
  rw [hr, hs]
  exact ⟨hpos, hlen, hdeltas, hline, hcount, Nat.zero_le _, Nat.zero_le _, Nat.zero_le _, hquiet, hword, rfl⟩

/-- The reset values lie in their ranges in every profile (R24). -/
theorem refInv_of_reset {t : State} (h : t.ref = State.reset.ref) : RefInv t := by
  have hday : 0 < t.day := dayOf_pos _
  unfold RefInv
  rw [h]
  exact ⟨hday, Nat.zero_le _, by simp [State.reset], Nat.succ_pos _, Nat.zero_le _, Nat.zero_le _, Nat.zero_le _,
    Nat.zero_le _, Nat.zero_le _, rfl, rfl⟩

/-- Every row keeps the reference unit in its ranges. -/
theorem refInv_exec {c : Instr} {s t : State} (h : RefInv s) (he : exec c s = .next t) : RefInv t := by
  by_cases hc : reachesReference c = false
  · exact refInv_of_kept (exec_referenceKept hc he) h
  · cases c <;> simp only [reachesReference, not_true_eq_false] at hc
    all_goals obtain rfl := Host.Outcome.next.inj he
    case hardwareReset => exact refInv_of_reset rfl
    case resetRestart => exact refInv_of_reset rfl
    case resetClear => exact refInv_of_reset rfl
    case linePulse => exact refInv_countLine h
    case framePulse => exact refInv_takeFramePulse h
    case positionBit => exact refInv_takePositionBit h
    case tick => exact refInv_ticked h
    case lossByTime =>
      split
      · exact refInv_unlockByTime h
      · exact h

/-- Settles O4: a step is a row on the station with the rest of its queue, and every row keeps the ranges. -/
theorem stepKeepsReferenceRanges : Obligations.StepKeepsReferenceRanges := by
  intro s t h hstep
  unfold step at hstep
  split at hstep
  · obtain rfl := Host.Outcome.next.inj hstep
    exact h
  · next c rest _ => exact refInv_exec (s := { s with pending := rest }) h hstep

end Sys2Proof.Machine
end

/-! ## Pulses inside the frame, UNLOCKED, and position bits (R1, R3, R4, R7, R8, R14) -/

section
namespace Sys2Proof.Machine

open Sys2Proof.Safety

/-! ### A line pulse inside the frame (R3, R72) -/

/-- Which columns are keyed does not depend on those that were keyed on the line before (R72). -/
theorem keyedRanges_keyed (k : List (Nat × Nat)) (s : State) :
    State.keyedRanges { s with out := { s.out with keyed := k } } = s.keyedRanges := rfl

/-- No column is keyed outside the active lines (R71, R72). -/
theorem keyedRanges_of_not_lineActive {s : State} (h : s.lineActive = false) : s.keyedRanges = [] := by
  simp [State.keyedRanges, h]

theorem subFrame_le (s : State) : s.subFrame ≤ 255 := by
  have hlines : 0 < linesOf s.straps.profile := by cases s.straps.profile <;> decide
  have hline : s.rasterLine < linesOf s.straps.profile := by unfold State.rasterLine; omega
  have hlt : s.subFrame < 256 := (Nat.div_lt_iff_lt_mul hlines).mpr (by omega)
  omega

/-- A condition on a flag, as the sticky flags show it. -/
theorem setFlagIf_eq (c : Bool) (f : Flag) (s : State) :
    s.setFlagIf c f =
      { s with port := { s.port with sticky := if c then withFlag f s.port.sticky else s.port.sticky } } := by
  cases c <;> rfl

/-- A counted line pulse below the synthesizing count, as a whole state: the counter, the flag, the keyed columns. -/
theorem countLine_eq_of_below {s : State} (h : s.ref.lineCounter + 1 < linesOf s.straps.profile + 4) :
    countLine s = { s with
      ref := { s.ref with lineCounter := s.ref.lineCounter + 1 }
      out := { s.out with keyed := (countLine s).keyedRanges }
      port := { s.port with sticky :=
        (if linesOf s.straps.profile ≤ s.ref.lineCounter + 1 then withFlag .refGlitch s.port.sticky
        else s.port.sticky) } } := by
  have hkeyed : (countLine s).keyedRanges = (raiseLine s).keyedRanges := by
    rw [countLine_of_below h]
    exact keyedRanges_keyed _ _
  rw [hkeyed, countLine_of_below h]
  simp only [State.fixKeyed, raiseLine, setFlagIf_eq, decide_eq_true_eq]

/-- Settles O29: a line pulse below the synthesizing count, and a frame pulse below its window, as whole states. -/
theorem pulsesInsideTheFrame : Obligations.PulsesInsideTheFrame := by
  refine ⟨fun s h => ⟨countLine s, rfl, countLine_eq_of_below h, ?_, subFrame_le _, fun hl => ?_⟩,
    fun s h => ⟨refusedPulse s, ?_, ?_, fun hu => ?_, fun hu => ?_⟩⟩
  · unfold State.rasterLine
    rw [countLine_ref_of_below h, (reportOnly_countLine s).straps]
  · rw [countLine_eq_of_below h]
    exact keyedRanges_of_not_lineActive hl
  all_goals have hrefused : s.pulseAccepted = false := decide_eq_false (by omega)
  · simp [exec, execFramePulse, takeFramePulse, hrefused]
  · simp [exec, execFramePulse, execLinePulse, takeFramePulse, hrefused]
  · simp [refusedPulse, hu, rephase]
  · simp [refusedPulse, hu, State.setFlag]

/-! ### UNLOCKED is left only by an accepted frame pulse (R14) -/

/-- A boundary in UNLOCKED does not look at the word and keeps the position; only an accepted one leaves it (R14). -/
theorem lockStepOf_of_unlocked {s : State} (accepted : Bool) (h : s.ref.lock = .unlocked) :
    s.lockStepOf accepted = boundaryUnlocked accepted (openFrame accepted s.ref) := by
  simp [State.lockStepOf, lockStep, openFrame, h]

theorem countLine_lock_of_unlocked {s : State} (h : s.ref.lock = .unlocked) (ht : s.ref.transport = .noRef) :
    (countLine s).ref.lock = .unlocked ∧ (countLine s).ref.position = s.ref.position ∧
      (countLine s).ref.transport = .noRef := by
  by_cases hb : s.ref.lineCounter + 1 < linesOf s.straps.profile + 4
  · rw [countLine_ref_of_below hb]
    exact ⟨h, rfl, ht⟩
  · rw [countLine_ref_of_due (by omega), State.refAfter, lockStepOf_of_unlocked false h]
    simp [boundaryUnlocked, stepStill, openFrame, h]

theorem refusedPulse_ref_of_unlocked {s : State} (h : s.ref.lock = .unlocked) :
    (refusedPulse s).ref = { s.ref with lineCounter := 0, shiftBits := 0#32, shiftCount := 0, frameWord := none } := by
  simp [refusedPulse, h, rephase]

theorem takeFramePulse_lock_of_refused {s : State} (withLine : Bool) (hp : s.pulseAccepted = false)
    (h : s.ref.lock = .unlocked) (ht : s.ref.transport = .noRef) :
    (takeFramePulse withLine s).ref.lock = .unlocked ∧ (takeFramePulse withLine s).ref.position = s.ref.position ∧
      (takeFramePulse withLine s).ref.transport = .noRef := by
  have hr := refusedPulse_ref_of_unlocked h
  unfold takeFramePulse
  cases withLine <;> simp only [hp, Bool.false_eq_true, if_false, if_true]
  · rw [hr]
    exact ⟨h, rfl, ht⟩
  · have hline := countLine_lock_of_unlocked (s := refusedPulse s) (by rw [hr]; exact h) (by rw [hr]; exact ht)
    rw [hr] at hline
    exact hline

/-- An accepted frame pulse in UNLOCKED enters ACQUIRING (R14). -/
theorem refAfter_of_unlocked {s : State} (h : s.ref.lock = .unlocked) :
    s.refAfter true =
      { openFrame true s.ref with lock := .acquiring, runCount := 0, transport := .noRef } := by
  rw [State.refAfter, lockStepOf_of_unlocked true h]
  simp [boundaryUnlocked, stepStill]

/-- The word of the frame has no part in an accepted boundary of UNLOCKED (R14). -/
theorem frameBoundary_word_of_unlocked {s : State} (h : s.ref.lock = .unlocked) (word : Option Nat) :
    frameBoundary true { s with ref := { s.ref with frameWord := word } } = frameBoundary true s := by
  have hstep : State.lockStepOf true { s with ref := { s.ref with frameWord := word } } = s.lockStepOf true := by
    have hword := lockStepOf_of_unlocked (s := { s with ref := { s.ref with frameWord := word } }) true h
    rw [hword, lockStepOf_of_unlocked true h]
    rfl
  have hafter : State.refAfter true { s with ref := { s.ref with frameWord := word } } = s.refAfter true := by
    simp only [State.refAfter, hstep]
  simp only [frameBoundary, boundaryReport, refBoundary, State.losesLock, hafter, hstep]

/-- A position bit reaches the shifter and the word alone (R7, R8). -/
theorem takePositionBit_lock (bit : Bool) (s : State) : (takePositionBit bit s).ref.lock = s.ref.lock := by
  have hword (u : State) : (completeWord u).ref.lock = u.ref.lock := by
    unfold completeWord
    split
    · split <;> rfl
    · rfl
  unfold takePositionBit
  split
  · rfl
  · split
    · exact hword _
    · rfl

/-- Of all rows only an accepted frame pulse leaves UNLOCKED (R14). -/
theorem exec_leaves_unlocked {c : Instr} {s t : State} (h : s.ref.lock = .unlocked) (ht : s.ref.transport = .noRef)
    (he : exec c s = .next t) (hl : t.ref.lock ≠ .unlocked) :
    ∃ withLine : Bool, c = .framePulse withLine ∧ s.pulseAccepted = true := by
  by_cases hc : reachesReference c = false
  · rw [(exec_referenceKept hc he).ref] at hl
    exact absurd h hl
  · cases c <;> simp only [reachesReference, not_true_eq_false] at hc
    all_goals obtain rfl := Host.Outcome.next.inj he
    case hardwareReset | resetRestart | resetClear => exact absurd rfl hl
    case linePulse => exact absurd (countLine_lock_of_unlocked h ht).1 hl
    case framePulse withLine =>
      cases hp : s.pulseAccepted
      · exact absurd (takeFramePulse_lock_of_refused withLine hp h ht).1 hl
      · exact ⟨withLine, rfl, rfl⟩
    case positionBit bit =>
      exact absurd ((takePositionBit_lock bit s).trans h) hl
    case tick => exact absurd h hl
    case lossByTime =>
      have hdue : s.lossDue = false := by simp [State.lossDue, h]
      simp only [hdue, Bool.false_eq_true, if_false] at hl
      exact absurd h hl

/-- Settles O31: in UNLOCKED the transport is NO_REF, every reference row but an accepted frame pulse keeps lock and
position, and no other row touches the reference unit. -/
theorem unlockedLeavesOnlyByAnAcceptedPulse : Obligations.UnlockedLeavesOnlyByAnAcceptedPulse := by
  intro s hinv hu
  have ht : s.ref.transport = .noRef := by
    obtain ⟨-, -, -, -, -, -, -, -, -, -, htransport⟩ := hinv
    rw [htransport, hu, classify_unlocked]
  refine ⟨ht, fun withLine hw => ?_, ⟨_, rfl, countLine_lock_of_unlocked hu ht⟩, fun withLine hw => ?_,
    ⟨_, rfl, hu, rfl, ht⟩, ?_, fun c t he hl => ?_⟩
  · have haccept (r : RefUnit) (hr : r.lineCounter = s.ref.lineCounter) :
        takeFramePulse withLine { s with ref := r } = frameBoundary true { s with ref := r } := by
      have hp : State.pulseAccepted { s with ref := r } = true := decide_eq_true (hr ▸ hw)
      simp [takeFramePulse, hp]
    refine ⟨⟨_, rfl, ?_⟩, fun word => ?_⟩
    · rw [haccept s.ref rfl, frameBoundary_ref, refAfter_of_unlocked hu]
      exact ⟨rfl, rfl, rfl⟩
    · exact congrArg Host.Outcome.next (by
        rw [haccept s.ref rfl, haccept { s.ref with frameWord := word } rfl, frameBoundary_word_of_unlocked hu])
  · exact ⟨_, rfl, takeFramePulse_lock_of_refused withLine (decide_eq_false (by omega)) hu ht⟩
  · simp [exec, execLossByTime, State.lossDue, hu]
  · obtain ⟨withLine, hc, hp⟩ := exec_leaves_unlocked hu ht he hl
    exact ⟨withLine, hc, of_decide_eq_true hp⟩

/-! ### Position bits (R7, R8, R191) -/

/-- The first k bits of a word in arrival order, the later ones 0: the shifter after k bits (R191). -/
def firstBits (k : Nat) (w : BitVec 32) : BitVec 32 := (w.setWidth k).setWidth 32

theorem firstBits_zero (w : BitVec 32) : firstBits 0 w = 0#32 := by
  ext i
  simp [firstBits]

theorem firstBits_all (w : BitVec 32) : firstBits 32 w = w := by simp [firstBits]

/-- The next bit of a word joins the bits before it at its place (R7, R191). -/
theorem withBit_firstBits (k : Nat) (w : BitVec 32) :
    withBit k (w.getLsbD k) (firstBits k w) = firstBits (k + 1) w := by
  ext i hi
  have hplace : (1#32 <<< k).getLsbD i = decide (i = k) := by
    simp only [BitVec.getLsbD_shiftLeft, BitVec.getLsbD_one]
    grind
  have hshifted : (firstBits k w ||| 1#32 <<< k).getLsbD i = ((firstBits k w).getLsbD i || decide (i = k)) := by
    rw [BitVec.getLsbD_or, hplace]
  unfold withBit
  rw [← BitVec.getLsbD_eq_getElem, ← BitVec.getLsbD_eq_getElem]
  split
  · next hbit =>
    rw [hshifted]
    simp only [firstBits, BitVec.getLsbD_setWidth]
    grind
  · next hbit =>
    simp only [firstBits, BitVec.getLsbD_setWidth]
    grind

theorem takePositionBit_of_lt {s : State} (bit : Bool) (h : s.ref.shiftCount < 31) :
    takePositionBit bit s = { s with ref := shiftIn bit s.ref } := by
  simp [takePositionBit, h]

theorem takePositionBit_of_eq {s : State} (bit : Bool) (h : s.ref.shiftCount = 31) :
    takePositionBit bit s = completeWord { s with ref := shiftIn bit s.ref } := by
  simp [takePositionBit, h]

theorem takePositionBit_of_gt {s : State} (bit : Bool) (h : 32 ≤ s.ref.shiftCount) :
    takePositionBit bit s = s.setFlag .refGlitch := by
  have h31 : ¬ s.ref.shiftCount < 31 := by omega
  have hne : ¬ s.ref.shiftCount = 31 := by omega
  simp [takePositionBit, h31, hne]

theorem step_of_pending {s : State} {c : Instr} {rest : List Instr} (h : s.pending = c :: rest) :
    step s = exec c { s with pending := rest } := by
  rw [step, h]

theorem run_succ_of_step {M : Host.Core} {s t : M.State} (h : M.step s = .next t) (n : Nat) :
    M.run (n + 1) s = M.run n t := by
  simp only [Host.Core.run, h]

/-- The bits of a word from the k-th on, at the front of the commands waiting, complete it from its first k bits. -/
theorem run_positionBits (w : BitVec 32) (rest : List Instr) (n : Nat) :
    ∀ (k : Nat) (s : State), k + n + 1 = 32 → s.ref.shiftCount = k → s.ref.shiftBits = firstBits k w →
      s.pending = (List.range' k (n + 1)).map (fun i => Instr.positionBit (w.getLsbD i)) ++ rest →
        Sys2Proof.core.run (n + 1) s =
          .next (completeWord { s with ref := { s.ref with shiftBits := w, shiftCount := 32 }, pending := rest }) := by
  induction n with
  | zero =>
    intro k s hk hcount hbits hpending
    obtain rfl : k = 31 := by omega
    have htake : takePositionBit (w.getLsbD 31) { s with pending := rest } =
        completeWord { s with ref := { s.ref with shiftBits := w, shiftCount := 32 }, pending := rest } := by
      rw [takePositionBit_of_eq (s := { s with pending := rest }) _ hcount]
      simp only [shiftIn, hcount, hbits, withBit_firstBits, Nat.reduceAdd, firstBits_all]
    exact (run_succ_of_step (M := Sys2Proof.core) (step_of_pending hpending) 0).trans
      (congrArg Host.Outcome.next htake)
  | succ n ih =>
    intro k s hk hcount hbits hpending
    rw [List.range'_succ] at hpending
    have htake := takePositionBit_of_lt (s := { s with
        pending := (List.range' (k + 1) (n + 1)).map (fun i => Instr.positionBit (w.getLsbD i)) ++ rest })
      (w.getLsbD k) (show s.ref.shiftCount < 31 by omega)
    have hshifted : withBit s.ref.shiftCount (w.getLsbD k) s.ref.shiftBits = firstBits (k + 1) w := by
      rw [hcount, hbits, withBit_firstBits]
    exact (run_succ_of_step (M := Sys2Proof.core)
      ((step_of_pending hpending).trans (congrArg Host.Outcome.next htake)) (n + 1)).trans
      (ih (k + 1) _ (by omega) (congrArg (· + 1) hcount) hshifted rfl)

/-- In the word window a completed word that is valid gives the frame its count (R8). -/
theorem completeWord_of_valid {s : State} {n : Nat} (h : s.wordWindow = true)
    (hj : judgeWord s.straps.profile s.ref.shiftBits = some n) :
    completeWord s = { s with ref := { s.ref with frameWord := some n } } := by
  simp [completeWord, h, hj]

/-- In the word window a completed word that fails is discarded with REF_WORD_BAD (R8). -/
theorem completeWord_of_invalid {s : State} (h : s.wordWindow = true)
    (hj : judgeWord s.straps.profile s.ref.shiftBits = none) : completeWord s = s.setFlag .refWordBad := by
  simp [completeWord, h, hj]

theorem completeWord_of_no_window {s : State} (h : s.wordWindow = false) : completeWord s = s.setFlag .refGlitch := by
  simp [completeWord, h]

/-- Settles O33: 32 bits by induction on the bits still to come, and one bit by where it falls. -/
theorem positionBitsMakeAJudgedWord : Obligations.PositionBitsMakeAJudgedWord := by
  refine ⟨fun w s rest hcount hbits hwindow hpending => ?_,
    fun bit s => ⟨fun h => ?_, fun h => ?_, fun h => ?_⟩⟩
  · rw [List.range_eq_range'] at hpending
    rw [run_positionBits w rest 31 0 s rfl hcount (hbits.trans (firstBits_zero w).symm) hpending]
    cases hj : judgeWord s.straps.profile w with
    | some n => exact congrArg Host.Outcome.next (completeWord_of_valid hwindow hj)
    | none => exact congrArg Host.Outcome.next (completeWord_of_invalid hwindow hj)
  · exact congrArg Host.Outcome.next (takePositionBit_of_lt bit h)
  · have htake : exec (.positionBit bit) s = .next (completeWord { s with ref := { s.ref with
        shiftBits := if bit then s.ref.shiftBits ||| (1#32 <<< 31) else s.ref.shiftBits, shiftCount := 32 } }) := by
      refine congrArg Host.Outcome.next ((takePositionBit_of_eq bit h).trans ?_)
      simp only [shiftIn, withBit, h]
    refine ⟨_, rfl, fun hfirst hlast => ⟨fun n hn => ?_, fun hn => ?_⟩, fun hout => ?_⟩
    · exact htake.trans (congrArg _ (completeWord_of_valid (decide_eq_true ⟨hfirst, hlast⟩) hn))
    · exact htake.trans (congrArg _ (completeWord_of_invalid (decide_eq_true ⟨hfirst, hlast⟩) hn))
    · have hwindow : s.wordWindow = false := decide_eq_false (by omega)
      exact htake.trans (congrArg _ (completeWord_of_no_window hwindow))
  · exact congrArg Host.Outcome.next (takePositionBit_of_gt bit h)

end Sys2Proof.Machine
end

/-! ## What the blocks do to the queue at a boundary: they give messages, none of them a BEACON (R22, R159, R170) -/

section
namespace Sys2Proof.Machine

open Sys2Proof.Safety

/-- What the blocks of a booth or a recorder do: they change their own data, raise flags and give messages. -/
inductive Moves : State → State → Prop
  | own {s t : State} (h : t = { s with
      cues := t.cues, entries := t.entries, out := t.out, claimCounter := t.claimCounter, tracks := t.tracks
      takes := { t.takes with deskLog := s.takes.deskLog } }) : Moves s t
  | flag (f : Flag) (s : State) : Moves s (s.setFlag f)
  | give (dest : Addr) (m : Message) (s : State) : Moves s (s.give dest m)
  | trans {s t u : State} (h : Moves s t) (k : Moves t u) : Moves s u

namespace Moves

theorem refl (s : State) : Moves s s := .own rfl

/-- What each step of a list does, the whole list does. -/
theorem foldl {α : Type} {f : State → α → State} (h : ∀ s x, Moves s (f s x)) (l : List α) (s : State) :
    Moves s (l.foldl f s) := by
  induction l generalizing s with
  | nil => exact refl s
  | cons x xs ih => exact (h s x).trans (ih (f s x))

theorem entries (es : List Entry) (s : State) : Moves s { s with entries := es } := .own rfl

theorem out (o : Outputs) (s : State) : Moves s { s with out := o } := .own rfl

theorem tracks (ts : List Track) (s : State) : Moves s { s with tracks := ts } := .own rfl

theorem updateEntry (slot : Nat) (f : Entry → Entry) (s : State) : Moves s (s.updateEntry slot f) := .own rfl

theorem updateCue (slot : Nat) (f : Cue → Cue) (s : State) : Moves s (s.updateCue slot f) := by
  unfold State.updateCue
  split
  · exact .own rfl
  · exact refl s

theorem updateRecord (serial : Word16) (f : LogRecord → LogRecord) (s : State) : Moves s (s.updateRecord serial f) :=
  .own rfl

theorem dropJournal (serial : Word16) (s : State) : Moves s (s.dropJournal serial) := .own rfl

theorem setTrack (i : Nat) (t : Track) (s : State) : Moves s (s.setTrack i t) := .own rfl

end Moves

/-! ### The claim unit and the take unit -/

theorem moves_releaseEntry (reason : ReleaseReason) (e : Entry) (s : State) : Moves s (releaseEntry reason e s) := by
  unfold releaseEntry
  split
  · exact (Moves.give _ _ s).trans (.updateEntry _ _ _)
  · exact .updateEntry _ _ s

theorem moves_releaseClaim (reason : ReleaseReason) (slot : Nat) (s : State) :
    Moves s (releaseClaim reason slot s) := by
  unfold releaseClaim
  split
  · split
    · exact moves_releaseEntry _ _ s
    · exact .refl s
  · exact .refl s

theorem moves_releaseLimit (slot : Nat) (s : State) : Moves s (releaseLimit slot s) := by
  unfold releaseLimit
  split
  · split
    · exact moves_releaseEntry _ _ s
    · exact .refl s
  · exact .refl s

theorem moves_newClaim (slot : Nat) (s : State) : Moves s (newClaim slot s) := by
  have hsend (track : Byte) (c : Cue) (e : Entry) : Moves s (sendClaim track c e s) :=
    .trans (t := State.updateEntry e.slot (Entry.claimed (s.claimCounter + 1#8))
      { s with claimCounter := s.claimCounter + 1#8 }) (.own rfl) (.give _ _ _)
  unfold newClaim
  split
  · split
    · split
      · exact hsend _ _ _
      · exact .updateEntry _ _ s
    · exact .refl s
  · exact .refl s

theorem moves_startTake (slot : Nat) (c : Cue) (e : Entry) (s : State) : Moves s (startTake slot c e s) := by
  have hlog : Moves s { s with takes := startLog slot c e (decide (s.ref.transport = .vari)) s.takes } := .own rfl
  exact (hlog.trans (.updateCue _ _ _)).trans (.updateEntry _ _ _)

theorem moves_giveNote (serial : Word16) (s : State) : Moves s (giveNote serial s) := by
  unfold giveNote
  split
  · exact .give _ _ s
  · exact .refl s

theorem moves_closeTake (result : TakeResult) (stop slot : Nat) (serial : Word16) (s : State) :
    Moves s (closeTake result stop slot serial s) :=
  (((((Moves.updateRecord _ _ s).trans (.updateCue _ _ _)).trans (.dropJournal _ _)).trans (.updateEntry _ _ _)).trans
    (moves_giveNote _ _)).trans (.flag _ _)

theorem moves_unwindTake (slot : Nat) (serial : Word16) (s : State) : Moves s (unwindTake slot serial s) := by
  unfold unwindTake
  split
  · next j _ =>
    have hlog : Moves s { s with takes := { s.takes with log := unwindLog s.takes.serial j s.takes.log } } := .own rfl
    exact ((hlog.trans (.updateCue _ _ _)).trans (.dropJournal _ _)).trans (.updateEntry _ _ _)
  · exact .refl s

theorem moves_stopTake (e : Entry) (serial : Word16) (s : State) : Moves s (stopTake e serial s) := by
  unfold stopTake
  split
  · exact moves_closeTake _ _ _ _ s
  · exact moves_unwindTake _ _ s

theorem moves_abortTake (cause : TakeCause) (slot : Nat) (s : State) : Moves s (abortTake cause slot s) := by
  unfold abortTake
  split
  · split
    · split
      · exact (moves_stopTake _ _ s).trans (moves_releaseClaim _ _ _)
      · exact moves_stopTake _ _ s
    · exact .refl s
  · exact .refl s

theorem moves_abortTakes (cause : TakeCause) (s : State) : Moves s (abortTakes cause s) :=
  .foldl (fun t slot => moves_abortTake cause slot t) _ s

theorem moves_punchInTake (slot : Nat) (s : State) : Moves s (punchInTake slot s) := by
  unfold punchInTake
  split
  · split
    · exact .refl s
    · split
      · exact .refl s
      · split
        · exact .refl s
        · split
          · exact (moves_releaseLimit _ s).trans (.updateEntry _ _ _)
          · split
            · exact (moves_releaseLimit _ s).trans (.updateEntry _ _ _)
            · exact moves_startTake _ _ _ s
  · exact .refl s

theorem moves_punchOutTake (slot : Nat) (s : State) : Moves s (punchOutTake slot s) := by
  unfold punchOutTake
  split
  · split
    · exact moves_closeTake _ _ _ _ s
    · exact .refl s
  · exact .refl s

/-! ### The lookahead and the cue outputs -/

theorem moves_beepMark (slot mark : Nat) (s : State) : Moves s (beepMark slot mark s) := by
  unfold beepMark
  split
  · split
    · exact .refl s
    · exact .out _ s
  · exact .refl s

theorem moves_removeEntry (slot : Nat) (s : State) : Moves s (removeEntry slot s) := .own rfl

theorem moves_evict (slot : Nat) (s : State) : Moves s (evict slot s) :=
  (moves_releaseClaim _ _ s).trans (moves_removeEntry _ _)

theorem moves_createEntry (slot : Nat) (s : State) : Moves s (createEntry slot s) := by
  unfold createEntry
  split
  · exact (Moves.entries _ s).trans (moves_newClaim _ _)
  · exact .refl s

theorem moves_recompute (s : State) : Moves s (recompute s) := by
  have hreform : Moves s (reform s) :=
    ((Moves.entries _ s).trans (.foldl (fun t slot => moves_evict slot t) _ _)).trans
      (.foldl (fun t slot => moves_createEntry slot t) _ _)
  unfold recompute
  split
  · exact hreform
  · exact .refl s

theorem moves_setPhases (s : State) : Moves s (setPhases s) := .entries _ s

theorem moves_retire (slot : Nat) (s : State) : Moves s (retire slot s) :=
  ((moves_punchOutTake _ s).trans (moves_releaseClaim _ _ _)).trans (moves_removeEntry _ _)

theorem moves_markAction (slot pos : Nat) (k : MarkKind) (s : State) : Moves s (markAction slot pos k s) := by
  cases k with
  | windowOpen | streamerStart | cueOut => exact .refl s
  | beep3 | beep2 | beep1 => exact moves_beepMark _ _ s
  | punchIn => exact moves_punchInTake _ s
  | cueIn => exact .out _ s
  | punchOut => exact moves_retire _ s

theorem moves_takeMark (o j slot : Nat) (k : MarkKind) (s : State) : Moves s (takeMark o j slot k s) := by
  unfold takeMark
  split
  · split
    · split
      · exact (Moves.updateEntry _ _ s).trans (moves_markAction _ _ _ _)
      · exact .refl s
    · exact .refl s
  · exact .refl s

theorem moves_takeMarks (o : Nat) (d : Int) (s : State) : Moves s (takeMarks o d s) := by
  have hat (j : Nat) (slots : List Nat) (u : State) : Moves u (takeMarksAt o j slots u) :=
    .foldl (fun t slot => .foldl (fun v k => moves_takeMark o j slot k v) allMarks t) slots u
  unfold takeMarks
  split
  · exact (hat _ _ s).trans (hat _ _ _)
  · exact hat _ _ s

theorem moves_rebuildEntry (slot : Nat) (s : State) : Moves s (rebuildEntry slot s) := by
  unfold rebuildEntry
  split
  · split
    · exact (Moves.updateEntry _ _ s).trans (moves_newClaim _ _)
    · exact .updateEntry _ _ s
  · exact .refl s

theorem moves_rebuild (s : State) : Moves s (rebuild s) :=
  (((moves_recompute s).trans (.out _ _)).trans (.foldl (fun t slot => moves_rebuildEntry slot t) _ _)).trans
    (moves_setPhases _)

theorem moves_lookaheadBoundary (r : Report) (s : State) : Moves s (lookaheadBoundary r s) := by
  unfold lookaheadBoundary
  split
  · split
    · exact moves_rebuild s
    · split
      · exact ((moves_takeMarks _ _ s).trans (moves_recompute _)).trans (moves_setPhases _)
      · exact (moves_recompute s).trans (moves_setPhases _)
  · exact .refl s

theorem moves_settle (s : State) : Moves s s.settle := by
  unfold State.settle State.redraw
  split
  · split <;> exact .own rfl
  · exact .own rfl

theorem moves_boothBoundary (r : Report) (s : State) : Moves s (boothBoundary r s) := by
  have hoff : Moves s (markOffSpeed s) := by
    unfold markOffSpeed
    split
    · exact .own rfl
    · exact .refl s
  have habort (u : State) : Moves u (transportAbort r u) := by
    unfold transportAbort
    split
    · exact moves_abortTakes _ u
    · exact .refl u
  have hage (u : State) : Moves u (ageBeeps r u) := by
    unfold ageBeeps
    split
    · exact .out _ u
    · exact .refl u
  exact ((hoff.trans (habort _)).trans (moves_lookaheadBoundary _ _)).trans (hage _)

/-! ### The reservation unit -/

theorem moves_announceGate (i : Nat) (reason : GateReason) (before after : Option Reservation) (s : State) :
    Moves s (announceGate i reason before after s) := by
  unfold announceGate
  split
  · exact .refl s
  · exact .give _ _ s
  · exact .give _ _ s
  · split
    · exact .refl s
    · unfold announceHandover
      split
      · exact .give _ _ s
      · exact (Moves.give _ _ s).trans (.give _ _ _)

theorem moves_evaluateTracks (s : State) : Moves s (evaluateTracks s) := by
  refine .foldl (fun t i => ?_) _ s
  unfold evaluateTrack
  split
  · exact (Moves.setTrack _ _ t).trans (moves_announceGate _ _ _ _ _)
  · exact .refl t

theorem moves_protect (r : Report) (s : State) : Moves s (protect r s) := by
  have hcut (reason : GateReason) (i : Nat) (u : State) : Moves u (cutTrack reason i u) := by
    unfold cutTrack
    split
    · split
      · exact ((Moves.setTrack _ _ u).trans (.give _ _ _)).trans (.flag _ _)
      · exact .refl u
    · exact .refl u
  unfold protect
  split
  · exact .foldl (fun t i => hcut _ i t) _ s
  · exact .refl s

theorem moves_reservationBoundary (r : Report) (s : State) : Moves s (reservationBoundary r s) := by
  unfold reservationBoundary
  split
  · exact ((moves_protect r s).trans (.tracks _ _)).trans (moves_evaluateTracks _)
  · exact (moves_protect r s).trans (moves_evaluateTracks _)

/-- The blocks of the latched role at a boundary report (R22). -/
theorem moves_roleBoundary (r : Report) (s : State) : Moves s (roleBoundary r s) := by
  unfold roleBoundary
  split
  · exact moves_boothBoundary r s
  · split
    · exact moves_reservationBoundary r s
    · exact .refl s

/-! ### BEACONs in the queue -/

/-- No BEACON has been given: one that was queued is queued still unless a message has been dropped, and every one that
is queued was queued before. -/
structure BeaconsKept (s t : State) : Prop where
  kept : s.line.queue.any TxMsg.isBeacon = true →
    t.line.queue.any TxMsg.isBeacon = true ∨ t.hasFlag .queueDrop = true
  old : ∀ m ∈ t.line.queue, m.isBeacon = true → m ∈ s.line.queue
  flags : flagsKept s t

namespace BeaconsKept

theorem of_queue {s t : State} (hq : t.line.queue = s.line.queue) (hf : flagsKept s t) : BeaconsKept s t :=
  ⟨fun h => .inl (by rw [hq]; exact h), fun m hm _ => by rwa [hq] at hm, hf⟩

theorem trans {s t u : State} (h : BeaconsKept s t) (k : BeaconsKept t u) : BeaconsKept s u := by
  refine ⟨fun hs => ?_, fun m hm hb => h.old m (k.old m hm hb) hb, flagsKept_trans h.flags k.flags⟩
  rcases h.kept hs with ht | ht
  · exact k.kept ht
  · exact .inr (k.flags _ ht)

end BeaconsKept

/-- A message of a block is no BEACON; it takes the place of one only with QUEUE_DROP (R160). -/
theorem beaconsKept_give (dest : Addr) (m : Message) (s : State) : BeaconsKept s (s.give dest m) := by
  have hflags : flagsKept s (s.give dest m) := (queueOnly_give dest m s).flags
  have hfresh : (freshTx (.fixed dest m) .internal).isBeacon = false := rfl
  have hjoin (q : List TxMsg) (x : TxMsg) (hx : x ∈ insertTx (freshTx (.fixed dest m) .internal) q)
      (hb : x.isBeacon = true) : x ∈ q := by
    rcases mem_insertTx.mp hx with rfl | hx
    · simp [hfresh] at hb
    · exact hx
  have hoffer := offerTx_cases (freshTx (.fixed dest m) .internal) s.line.queue
  unfold State.give State.giveInternal at *
  rcases hoffer with ⟨-, h⟩ | ⟨-, -, h⟩ | ⟨-, -, h⟩ <;> simp only [h] at hflags ⊢
  · refine ⟨fun hs => .inl ?_, fun x hx hb => hjoin _ x hx hb, hflags⟩
    obtain ⟨x, hx, hb⟩ := List.any_eq_true.mp hs
    exact List.any_eq_true.mpr ⟨x, mem_insertTx.mpr (.inr hx), hb⟩
  · exact ⟨fun _ => .inr (by simp), fun x hx hb => List.dropLast_subset _ (hjoin _ x hx hb), hflags⟩
  · exact .of_queue rfl hflags

theorem beaconsKept_of_moves {s t : State} (h : Moves s t) : BeaconsKept s t := by
  induction h with
  | own h => exact .of_queue (by rw [h]) (flagsKept_of_sticky (by rw [h]))
  | flag f s => exact .of_queue rfl (flagsKept_setFlag f s)
  | give dest m s => exact beaconsKept_give dest m s
  | trans _ _ h k => exact h.trans k

/-- A BEACON that the station unit gives stands in the queue, or a message has been dropped (R159, R160). -/
theorem giveBeacon_queued (s : State) :
    s.giveBeacon.line.queue.any TxMsg.isBeacon = true ∨ s.giveBeacon.hasFlag .queueDrop = true := by
  have hfresh : (freshTx .beacon .internal).isBeacon = true := rfl
  have hjoin (q : List TxMsg) : (insertTx (freshTx .beacon .internal) q).any TxMsg.isBeacon = true :=
    List.any_eq_true.mpr ⟨_, mem_insertTx.mpr (.inl rfl), hfresh⟩
  unfold State.giveBeacon
  split
  · next h =>
    refine .inl ?_
    obtain ⟨x, hx, hb⟩ := List.any_eq_true.mp h
    refine List.any_eq_true.mpr ⟨renewBeacon x, List.mem_map_of_mem hx, ?_⟩
    rw [renewBeacon, if_pos hb]
    exact hb
  · have hoffer := offerTx_cases (freshTx .beacon .internal) s.line.queue
    unfold State.giveInternal
    rcases hoffer with ⟨-, h⟩ | ⟨-, -, h⟩ | ⟨-, -, h⟩ <;> simp only [h]
    · exact .inl (hjoin _)
    · exact .inr (by simp)
    · exact .inr (by simp)

/-- The BEACON of a report, where nothing that follows it in the step gives another (R22, R170). -/
theorem beaconOfChange_of_report {r : Report} {s u t : State} (hq : u.line.queue = s.line.queue)
    (hu : u.station = s.station) (hm : Moves (reportBeacon r u) t) (hlock : r.lock = t.ref.lock)
    (hbefore : r.lockBefore = s.ref.lock) (htransport : r.transport = t.ref.transport)
    (hfrom : r.before = s.ref.transport) : beaconOfChange s t := by
  have hk := beaconsKept_of_moves hm
  have hchanged : r.changed = true ↔ t.ref.lock ≠ s.ref.lock ∨ t.ref.transport ≠ s.ref.transport := by
    simp [Report.changed, hlock, hbefore, htransport, hfrom]
  have hactive : u.active = true ↔ s.station.state = .active := by simp [State.active, hu]
  constructor
  · intro ha hc
    have hgive : reportBeacon r u = u.giveBeacon := by simp [reportBeacon, hactive.mpr ha, hchanged.mpr hc]
    rw [hgive] at hk
    rcases giveBeacon_queued u with h | h
    · exact hk.kept h
    · exact .inr (hk.flags _ h)
  · intro hno
    have hstill : reportBeacon r u = u := by
      have hcond : ¬ (u.active && r.changed) = true := by
        rw [Bool.and_eq_true, hactive, hchanged]
        tauto
      simp only [reportBeacon, hcond, if_false, Bool.false_eq_true]
    rw [hstill] at hk
    exact fun m hm hb => hq ▸ hk.old m hm hb

end Sys2Proof.Machine
end

/-! ## Boundaries, accepted and synthesized (R4 to R7, R13 to R20, R22, R170) -/

section
namespace Sys2Proof.Machine

open Sys2Proof.Safety

/-! ### The lock at a boundary -/

/-- No third synthesized boundary in a row: the boundary goes by the rule of the lock state (R13). -/
theorem lockStep_of_not_third {D : Nat} {accepted : Bool} {word : Option Nat} {r : RefUnit}
    (h : (!accepted && r.synthCount == 3) = false) :
    lockStep D accepted word r =
      match r.lock with
      | .unlocked => boundaryUnlocked accepted r
      | .acquiring => boundaryAcquiring word r
      | .locked => boundaryLocked D word r
      | .holdover => boundaryHoldover D word r := by
  unfold lockStep
  rw [h]
  cases r.lock <;> rfl

/-- The third synthesized boundary in a row enters UNLOCKED (R13, R19). -/
theorem lockStep_of_third {D : Nat} {accepted : Bool} {word : Option Nat} {r : RefUnit}
    (h : (!accepted && r.synthCount == 3) = true) (hl : r.lock ≠ .unlocked) :
    lockStep D accepted word r = stepStill (enterUnlocked r) := by
  unfold lockStep
  rw [h]
  cases hr : r.lock with
  | unlocked => exact absurd hr hl
  | acquiring | locked | holdover => rfl

/-- Whether a boundary is the third synthesized one in a row (R13). -/
theorem third_openFrame (accepted : Bool) (r : RefUnit) :
    (!accepted && (openFrame accepted r).synthCount == 3) = (!accepted && decide (2 ≤ r.synthCount)) := by
  cases accepted
  · simp only [openFrame, Bool.not_false, Bool.true_and, Bool.false_eq_true, if_false, beq_eq_decide]
    exact decide_eq_decide.mpr (by omega)
  · rfl

/-- The rule of the lock state before a boundary that is not the third synthesized one in a row (R14 to R17, R20). -/
theorem lockMoved_of_refAfter {accepted : Bool} {s t : State} (hr : t.ref = s.refAfter accepted)
    (hthird : s.ref.lock = .unlocked ∨ (!accepted && decide (2 ≤ s.ref.synthCount)) = false)
    (hflag : s.losesLock accepted = true → t.hasFlag .refUnlock = true) : lockMoved accepted s t := by
  have hstep : s.ref.lock ≠ .unlocked → s.lockStepOf accepted =
      match s.ref.lock with
      | .unlocked => boundaryUnlocked accepted (openFrame accepted s.ref)
      | .acquiring => boundaryAcquiring s.ref.frameWord (openFrame accepted s.ref)
      | .locked => boundaryLocked s.day s.ref.frameWord (openFrame accepted s.ref)
      | .holdover => boundaryHoldover s.day s.ref.frameWord (openFrame accepted s.ref) := by
    intro hl
    refine lockStep_of_not_third ?_
    rw [third_openFrame]
    exact hthird.resolve_left hl
  unfold State.losesLock at hflag
  rw [State.refAfter] at hr hflag
  unfold lockMoved
  cases hl : s.ref.lock with
  | unlocked =>
    rw [lockStepOf_of_unlocked accepted hl] at hr
    cases accepted <;> simp [hr, boundaryUnlocked, stepStill, openFrame, hl]
  | acquiring =>
    rw [hstep (by simp [hl])] at hr
    simp only [hl] at hr
    cases hw : s.ref.frameWord with
    | none => simp [hr, hw, boundaryAcquiring, stepStill, openFrame, hl]
    | some n =>
      by_cases hrun : s.ref.runCount = 0
      · simp [hr, hw, boundaryAcquiring, stepStill, openFrame, hl, hrun]
      · have hrun2 : ¬ s.ref.runCount + 1 < 2 := by omega
        simp [hr, hw, boundaryAcquiring, stepStill, openFrame, hrun, hrun2]
  | locked =>
    rw [hstep (by simp [hl])] at hr
    simp only [hl] at hr
    cases hw : s.ref.frameWord with
    | none => simp [hr, hw, boundaryLocked, stepPredicted, stepTo, movedTo, openFrame]
    | some n => simp [hr, hw, boundaryLocked, stepWord, stepTo, movedTo, openFrame, hl]
  | holdover =>
    rw [hstep (by simp [hl])] at hr hflag
    simp only [hl] at hr hflag
    cases hw : s.ref.frameWord with
    | none =>
      by_cases hc : s.ref.holdoverCount < 5
      · simp [hr, hw, boundaryHoldover, stepPredicted, stepTo, movedTo, openFrame, hc, hl]
      · have hset := hflag (by simp [hw, boundaryHoldover, stepStill, enterUnlocked, openFrame, hc])
        simp [hr, hw, boundaryHoldover, stepStill, enterUnlocked, openFrame, hc, hset]
    | some n =>
      by_cases hp : n = predictedPosition s.day s.ref.position s.ref.history
      · simp [hr, hw, boundaryHoldover, stepTo, movedTo, openFrame, hp]
      · simp [hr, hw, boundaryHoldover, stepWord, stepTo, movedTo, openFrame, hp]
        rfl

/-! ### The flags of a boundary (R7, R19) -/

theorem hasFlag_setFlagIf {c : Bool} {f : Flag} {s : State} (h : c = true) : (s.setFlagIf c f).hasFlag f = true := by
  simp [State.setFlagIf, h]

/-- A partial word is discarded with REF_GLITCH (R7). -/
theorem frameBoundary_refGlitch (accepted : Bool) {s : State} (h : 1 ≤ s.ref.shiftCount ∧ s.ref.shiftCount ≤ 31) :
    (frameBoundary accepted s).hasFlag .refGlitch = true :=
  (reportOnly_publishBoundary _ _).flags _
    ((queueOnly_setFlagIf _ _ _).flags _ (hasFlag_setFlagIf (decide_eq_true h)))

/-- An entry to UNLOCKED sets REF_UNLOCK (R19). -/
theorem frameBoundary_refUnlock {accepted : Bool} {s : State} (h : s.losesLock accepted = true) :
    (frameBoundary accepted s).hasFlag .refUnlock = true :=
  (reportOnly_publishBoundary _ _).flags _ (hasFlag_setFlagIf h)

/-- A boundary gives a BEACON exactly for a change of lock or transport (R22, R170). -/
theorem moves_publishBoundary (r : Report) (s : State) :
    Moves (reportBeacon r { s with out := newFrameOutputs s.out }) (publishBoundary r s) :=
  ((moves_roleBoundary r _).trans (.out _ _)).trans (moves_settle _)

theorem refBoundary_line (accepted : Bool) (s : State) : (refBoundary accepted s).line = s.line := by
  unfold refBoundary
  simp only [setFlagIf_eq]

/-- The BEACON of a frame boundary from a state with the queue, the station, the lock and the transport of the one before
the row. -/
theorem beaconOfChange_of_frameBoundary {accepted : Bool} {s u t : State} (hq : u.line.queue = s.line.queue)
    (hu : u.station = s.station) (hlock : u.ref.lock = s.ref.lock) (htransport : u.ref.transport = s.ref.transport)
    (hm : Moves (frameBoundary accepted u) t) (hr : t.ref = u.refAfter accepted) : beaconOfChange s t := by
  refine beaconOfChange_of_report (r := boundaryReport accepted u)
    (u := { refBoundary accepted u with out := newFrameOutputs (refBoundary accepted u).out }) ?_ ?_
    ((moves_publishBoundary _ _).trans hm) (by rw [hr]; rfl) hlock (by rw [hr]; rfl) htransport
  · exact (congrArg LineUnit.queue (refBoundary_line accepted u)).trans hq
  · exact (reportOnly_refBoundary accepted u).station.trans hu

/-- Settles O30: an accepted frame pulse is a boundary, whose counts, lock, flags and BEACON are the lemmas above. -/
theorem acceptedFramePulseOpensAFrame : Obligations.AcceptedFramePulseOpensAFrame := by
  intro withLine s h
  have hpulse : takeFramePulse withLine s = frameBoundary true s := by
    simp [takeFramePulse, State.pulseAccepted, h]
  have hr := frameBoundary_ref true s
  obtain ⟨hline, hbits, hcount, hword, hquiet, hsynth⟩ := frameCountsKept_refAfter true s
  have hreport := reportOnly_frameBoundary true s
  refine ⟨frameBoundary true s, congrArg _ hpulse, hreport.kept, hreport.flags, ?_⟩
  rw [hr]
  refine ⟨hline, hcount, hbits, hword, hquiet, hsynth.elim id And.right, rfl,
    fun h1 h31 => frameBoundary_refGlitch true ⟨h1, h31⟩,
    lockMoved_of_refAfter hr (.inr rfl) frameBoundary_refUnlock, ?_⟩
  exact beaconOfChange_of_frameBoundary rfl rfl rfl rfl (.refl _) hr

/-! ### The synthesized boundary -/

theorem losesLock_raiseLine (accepted : Bool) (s : State) :
    (raiseLine s).losesLock accepted = s.losesLock accepted := by
  simp only [State.losesLock, refAfter_raiseLine, raiseLine_ref]

/-- The third synthesized boundary in a row leaves the reference unit as R19 says. -/
theorem refAfter_of_third {s : State} (hl : s.ref.lock ≠ .unlocked) (h : 2 ≤ s.ref.synthCount) :
    s.refAfter false = enterUnlocked (openFrame false s.ref) := by
  have hthird : (!false && (openFrame false s.ref).synthCount == 3) = true := by
    rw [third_openFrame]
    simpa using h
  have hstep : s.lockStepOf false = stepStill (enterUnlocked (openFrame false s.ref)) := lockStep_of_third hthird hl
  simp [State.refAfter, hstep, stepStill, enterUnlocked]

/-- A line pulse that synthesizes a boundary comes after the last line: it is an excess pulse (R3, R5). -/
theorem countLine_refGlitch {s : State} (h : linesOf s.straps.profile ≤ s.ref.lineCounter + 1) :
    (countLine s).hasFlag .refGlitch = true := by
  have hraised : (raiseLine s).hasFlag .refGlitch = true := hasFlag_setFlagIf (decide_eq_true h)
  unfold countLine
  split
  · exact (boothOnly_fixKeyed _).flags _ ((reportOnly_frameBoundary _ _).flags _ hraised)
  · exact (boothOnly_fixKeyed _).flags _ hraised

/-- Settles O32: the line pulse at that count is a synthesized boundary; the third in a row is R13's, and any other goes
by the rule of the lock state. -/
theorem synthesizedBoundaryAndTheThirdInARow : Obligations.SynthesizedBoundaryAndTheThirdInARow := by
  intro s h
  have hdue : linesOf s.straps.profile + 4 ≤ s.ref.lineCounter + 1 := by omega
  have hr := countLine_ref_of_due hdue
  have hreport := reportOnly_countLine s
  have hunlock : s.losesLock false = true → (countLine s).hasFlag .refUnlock = true := by
    intro hlost
    rw [countLine_of_due hdue]
    exact (boothOnly_fixKeyed _).flags _ (frameBoundary_refUnlock ((losesLock_raiseLine false s).trans hlost))
  have hbeacon : beaconOfChange s (countLine s) := by
    have hmoves : Moves (frameBoundary false (raiseLine s)) (countLine s) := by
      rw [countLine_of_due hdue]
      exact .out _ _
    refine beaconOfChange_of_frameBoundary ?_ (reportOnly_raiseLine s).station ?_ ?_ hmoves
      (hr.trans (refAfter_raiseLine false s).symm)
    · rw [raiseLine, setFlagIf_eq]
    · rw [raiseLine_ref]
    · rw [raiseLine_ref]
  obtain ⟨hline, hbits, hcount, hword, hquiet, hsynth⟩ := frameCountsKept_refAfter false s
  refine ⟨countLine s, rfl, hreport.kept, hreport.flags, countLine_refGlitch (by omega), ?_⟩
  rw [hr]
  refine ⟨hline, hcount, hbits, hword, hquiet, rfl, hbeacon,
    fun hl => ⟨lockMoved_of_refAfter hr (.inl hl) hunlock, ?_⟩, fun hl hthird => ?_,
    fun hl hearly => ⟨lockMoved_of_refAfter hr (.inr (by simpa using hearly)) hunlock, fun hkept => ?_⟩⟩
  · rw [State.refAfter, lockStepOf_of_unlocked false hl]
    rfl
  · have hthird' := refAfter_of_third hl hthird
    rw [hthird']
    exact ⟨rfl, rfl, rfl, rfl, rfl, rfl, rfl, hunlock (by simp [State.losesLock, hthird', enterUnlocked, hl])⟩
  · rcases hsynth with e | ⟨e, -⟩
    · rw [e]
      exact Nat.min_eq_left (by omega)
    · exact absurd e hkept

end Sys2Proof.Machine
end

/-! ## Ticks, timers and their expiries (R18, R115, R116, R159, R160, R169, R171, R173, R175) -/

section
namespace Sys2Proof.Machine

open Sys2Proof.Safety

/-! ### The beacon timer and the BEACON it gives -/

theorem setBeaconTimer_eq (s : State) : s.setBeaconTimer = { s with station := { s.station with
    prng := prngStep s.station.prng, beaconTimer := 100 + (prngStep s.station.prng).toNat % 16 } } := rfl

/-- BEACONs are of the least urgent class (spec 08 section 8.3). -/
theorem cls_le_beacon (m : TxMsg) : m.cls ≤ (freshTx .beacon .internal).cls := by
  have hbeacon : (freshTx .beacon .internal).cls = 3 := rfl
  rw [hbeacon]
  unfold TxMsg.cls
  split
  · exact Nat.le_refl 3
  · exact Nat.le_of_lt_succ (BitVec.isLt _)

/-- A first BEACON joins a queue with room (R159). -/
theorem giveBeacon_of_room {s : State} (hb : s.line.queue.any TxMsg.isBeacon = false) (hq : s.line.queue.length < 8) :
    s.giveBeacon = s.withQueue (insertTx (newMessage .beacon .internal) s.line.queue) := by
  simp only [State.giveBeacon, hb, Bool.false_eq_true, if_false]
  exact giveInternal_of_room .beacon s hq

/-- A first BEACON displaces no message of a full queue: it is dropped with QUEUE_DROP (R160). -/
theorem giveBeacon_of_full {s : State} (hb : s.line.queue.any TxMsg.isBeacon = false) (hq : 8 ≤ s.line.queue.length) :
    s.giveBeacon = s.setFlag .queueDrop := by
  have hoffer : offerTx (freshTx .beacon .internal) s.line.queue = .full := by
    rcases offerTx_cases (freshTx .beacon .internal) s.line.queue with ⟨hlt, -⟩ | ⟨-, ⟨victim, -, hlt, -⟩, -⟩ | ⟨-, -, h⟩
    · omega
    · exact absurd (cls_le_beacon victim) (by omega)
    · exact h
  simp [State.giveBeacon, hb, State.giveInternal, hoffer]

/-- A BEACON in the queue is renewed in its place (R159). -/
theorem giveBeacon_of_queued {s : State} (hb : s.line.queue.any TxMsg.isBeacon = true) :
    s.giveBeacon = s.withQueue (s.line.queue.map renewBeacon) := by
  simp [State.giveBeacon, hb]

/-! ### The outputs judged between boundaries (R82, R84, R85) -/

/-- What an event between boundaries does to the cue outputs, with BEEP and LIGHT as the state then gives them. -/
theorem eq_of_settle {s t : State} (h : t = s.settle) : t = { s with out := { s.out with
    drawn := t.out.drawn, resumed := t.out.resumed, flash := t.out.flash, beep := t.beepLevel
    light := t.lightLevel } } := by
  subst h
  unfold State.settle State.redraw
  split
  · split <;> rfl
  · rfl

/-- The station enters ACTIVE with its first BEACON, its timer and its outputs (R169, R171). -/
theorem enterActive_eq {s : State} (hq : s.line.queue = []) :
    enterActive s = { s with
      station := { s.station with
        state := .active, prng := prngStep s.station.prng
        beaconTimer := 100 + (prngStep s.station.prng).toNat % 16 }
      line := { s.line with queue := [newMessage .beacon .internal] }
      out := { s.out with
        drawn := (enterActive s).out.drawn, resumed := (enterActive s).out.resumed
        flash := (enterActive s).out.flash, beep := (enterActive s).beepLevel
        light := (enterActive s).lightLevel } } := by
  have hgiven := giveBeacon_of_room (s := { s with station := { s.station with state := .active } }) (by simp [hq])
    (by simp [hq])
  simp only [hq, insertTx] at hgiven
  refine (eq_of_settle (t := enterActive s) rfl).trans ?_
  rw [hgiven, setBeaconTimer_eq]
  rfl

/-! ### The answer timer (R115, R116) -/

theorem slot_of_entryOf {s : State} {slot : Nat} {e : Entry} (h : s.entryOf slot = some e) : e.slot = slot := by
  simpa using List.find?_some h

/-- The entry of a slot is changed, the slots compared as numbers. -/
theorem updateEntry_eq (slot : Nat) (f : Entry → Entry) (s : State) :
    s.updateEntry slot f = { s with entries := s.entries.map (fun x => if x.slot = slot then f x else x) } := by
  simp only [State.updateEntry, beq_iff_eq]

theorem takeAnswerExpiry_of_due {s : State} {slot : Nat} {e : Entry} (he : s.entryOf slot = some e)
    (hc : e.claim = .pending) (ht : e.answerTimer = 0) : takeAnswerExpiry slot s = answerExpired e s := by
  simp [takeAnswerExpiry, he, Entry.answerDue, hc, ht]

/-- The first expiry sends the same claim again, with the resend flag (R116). -/
theorem answerExpired_of_first {s : State} {e : Entry} {c : Cue} {track n : Byte} (hc : s.cueAt e.slot = some c)
    (ht : c.track = some track) (hn : e.claimNo = some n) (hr : e.resent = false) :
    answerExpired e s = resendClaim track c n e s := by
  simp [answerExpired, hr, hc, State.trackOf, ht, hn]

/-- An answer timer that is not due changes nothing. -/
theorem takeAnswerExpiry_of_undue {s : State} {slot : Nat}
    (h : (s.entryOf slot).all (fun e => decide (e.claim ≠ .pending ∨ e.answerTimer ≠ 0)) = true) :
    takeAnswerExpiry slot s = s := by
  unfold takeAnswerExpiry
  split
  · next e he =>
    have hdue : e.answerDue = false := by
      rw [he] at h
      simp only [Option.all_some, decide_eq_true_eq] at h
      simp only [Entry.answerDue, Bool.and_eq_false_iff, beq_eq_false_iff_ne]
      exact h
    simp [hdue]
  · rfl

/-! ### The rows -/

theorem tickTimer_eq (e : Entry) :
    e.tickTimer = { e with answerTimer := if e.claim = .pending then e.answerTimer - 1 else e.answerTimer } := by
  unfold Entry.tickTimer
  split <;> rfl

/-- Settles O40: TICK as one equation, and each expiry by the lemma on what it does where it is due. -/
theorem ticksDriveTheTimersAndTheirExpiries : Obligations.TicksDriveTheTimersAndTheirExpiries := by
  refine ⟨fun s => ?tick,
    fun s => ⟨fun hs hj hq => ?join, fun hs hb => ?beacon, fun h => ?joinUndue, fun h => ?beaconUndue⟩,
    fun slot s => ⟨fun e c track n he hc ht hno hp ha hr => ?resend, fun e he hp ha hr => ?giveUp, fun h => ?undue⟩⟩
  case tick =>
    refine congrArg Host.Outcome.next ?_
    simp only [ticked, funext tickTimer_eq]
    rfl
  case join =>
    have hdue : s.joinDue = true := by simp [State.joinDue, hs, hj]
    refine ⟨enterActive s, ?_, enterActive_eq hq⟩
    simp [exec, execJoinTimerExpiry, hdue]
  case beacon =>
    have hdue : s.beaconDue = true := by simp [State.beaconDue, State.active, hs, hb]
    have hexec : exec .beaconTimerExpiry s = .next s.giveBeacon.setBeaconTimer := by
      simp [exec, execBeaconTimerExpiry, hdue]
    refine ⟨fun hn hq => ?_, fun hn hq => ?_, fun hn => ?_⟩
    · rw [hexec, giveBeacon_of_room hn hq]
      rfl
    · rw [hexec, giveBeacon_of_full hn hq]
      rfl
    · rw [hexec, giveBeacon_of_queued hn]
      rfl
  case joinUndue =>
    have hundue : s.joinDue = false := by simpa [State.joinDue] using h
    simp [exec, execJoinTimerExpiry, hundue]
  case beaconUndue =>
    have hundue : s.beaconDue = false := by simpa [State.beaconDue, State.active] using h
    simp [exec, execBeaconTimerExpiry, hundue]
  case resend =>
    have hslot := slot_of_entryOf he
    refine congrArg Host.Outcome.next ((takeAnswerExpiry_of_due he hp ha).trans ?_)
    rw [answerExpired_of_first (hslot ▸ hc) ht hno hr, resendClaim, updateEntry_eq, hslot]
    rfl
  case giveUp =>
    have hslot := slot_of_entryOf he
    refine congrArg Host.Outcome.next ((takeAnswerExpiry_of_due he hp ha).trans ?_)
    simp only [answerExpired, hr, if_true, updateEntry_eq, hslot, Entry.givenUp]
  case undue => exact congrArg Host.Outcome.next (takeAnswerExpiry_of_undue h)

end Sys2Proof.Machine
end

/-! ## The loss of the reference by time, from a state that no run reaches (R103) -/

section
namespace Sys2Proof.Machine

open Sys2Proof.Safety

/-- A cue from 0 to 1 on track 3, selected. -/
def heldCue : Cue :=
  { selected := true, cueId := 0#16, inLabel := labelOfCount .p0 0, outLabel := labelOfCount .p0 1, cueIn := 0
    cueOut := 1, streamer := 0#8, beepCount := 0#8, beepDur := 1#8, track := some 3#8, pre := 0#8, post := 0#8
    text := [], takeCount := 1, lastResult := some .inFlight, circled := 0 }

/-- Its entry with a GRANTED claim and a take that is RUNNING. -/
def heldEntry : Entry :=
  { slot := 0, key := 0, marks := marksOf .p0 heldCue, phase := .speaking, crossed := 0#9, stoodDown := false
    claim := .granted, claimNo := some 1#8, denyReason := none, answerTimer := 0, resent := false, take := .running
    serial := some 1#16, gateSeenOpen := false, gateCut := false }

/-- A take that is RUNNING in STOPPED, where the loss of the reference is due. FlightInv has a RUNNING take roll. -/
def runningWhileStopped : State :=
  { State.reset with
    ref := { State.reset.ref with lock := .locked, quietTicks := 10, history := [0, 0, 0], transport := .stopped }
    cues := State.reset.cues.set 0 (some heldCue)
    entries := [heldEntry]
    station := { State.reset.station with state := .active, joinTimer := 0 } }

theorem runningWhileStopped_invariants :
    RefInv runningWhileStopped ∧ TrackInv runningWhileStopped ∧ LookInv runningWhileStopped ∧
      LineInv runningWhileStopped := by decide +kernel

/-- Its claim is not released: the transport has not left PLAY or VARI, so no take is aborted (R103). -/
theorem runningWhileStopped_not_released :
    ¬ sentInOrder runningWhileStopped (unlockByTime runningWhileStopped)
      (releasesOf .abort runningWhileStopped.running runningWhileStopped ++
        cutsOf .refLost (fun _ => true) runningWhileStopped) := by
  unfold sentInOrder
  decide +kernel

/-- Refutes O41: its premises let a take be RUNNING while the transport is STOPPED. The loss of the reference then leaves no
PLAY or VARI, nothing is aborted, and the RELEASE that the statement expects is not given. FlightInv excludes such a
state. -/
theorem not_lossesByTimeReachEveryBlock : ¬ Obligations.LossesByTimeReachEveryBlock := by
  rintro ⟨hloss, -⟩
  obtain ⟨-, htracks, hlook, hline⟩ := runningWhileStopped_invariants
  obtain ⟨t, ht, -, -, -, -, -, -, -, -, -, -, -, -, -, hsent⟩ :=
    (hloss runningWhileStopped htracks).1 rfl (by decide)
  obtain rfl := Host.Outcome.next.inj ht
  exact runningWhileStopped_not_released (hsent hlook hline)

end Sys2Proof.Machine
end

/-! ## The station right after a reset (R178) -/

section
namespace Sys2Proof.Machine

open Sys2Proof.Safety

/-! ### Every reset leaves every invariant -/

/-- A reset leaves HELD or JOINING (R167). -/
theorem freshState_not_active (k : Straps) (s : State) : (freshState k s).active = false := by
  cases hk : k.hold <;> simp [State.active, freshState, freshStation, hk]

theorem freshState_tracks {k : Straps} {s : State} {t : Track} (h : t ∈ (freshState k s).tracks) :
    t = { named := none, table := [] } :=
  List.eq_of_mem_replicate h

theorem freshState_cues {k : Straps} {s : State} {c : Option Cue} (h : c ∈ (freshState k s).cues) : c = none :=
  List.eq_of_mem_replicate h

theorem cueInv_freshState (k : Straps) (s : State) : CueInv (freshState k s) := by
  refine ⟨rfl, fun c hc => ?_⟩
  rw [freshState_cues hc]
  rfl

theorem lookInv_freshState (k : Straps) (s : State) : LookInv (freshState k s) :=
  ⟨Nat.zero_le _, List.nodup_nil, by simp [freshState, State.reset], fun h => absurd rfl h⟩

theorem takeInv_freshState (k : Straps) (s : State) : TakeInv (freshState k s) := by
  refine ⟨Nat.zero_le _, Nat.zero_le _, fun c hc => ?_, ?_⟩
  · rw [freshState_cues hc]
    rfl
  · simp [freshState, State.reset, State.running, displacedSerials]

theorem flightInv_freshState (k : Straps) (s : State) : FlightInv (freshState k s) := by
  simp [FlightInv, freshState, State.reset, State.running]

theorem levelInv_freshState (k : Straps) (s : State) : LevelInv (freshState k s) := by
  have hbooth : (freshState k s).activeBooth = false := by simp [State.activeBooth, freshState_not_active]
  constructor
  · rw [State.lightLevel, hbooth]
    rfl
  · rw [State.beepLevel, hbooth]
    rfl

theorem trackInv_freshState (k : Straps) (s : State) : TrackInv (freshState k s) := by
  refine ⟨rfl, fun t ht => ?_⟩
  rw [freshState_tracks ht]
  simp [State.gateNamed, freshState_not_active]

theorem bookingInv_freshState (k : Straps) (s : State) : BookingInv (freshState k s) := by
  intro t ht a ha
  rw [freshState_tracks ht] at ha
  cases ha

/-- No receiver is taking a frame after a reset (R165). -/
theorem lineHeld_freshState (k : Straps) (s : State) : (freshState k s).lineHeld = false := by
  cases hr : s.line.receiver <;> simp [State.lineHeld, freshState, State.reset, hr, Receiver.afterReset]

theorem lineInv_freshState (k : Straps) (s : State) : LineInv (freshState k s) := by
  unfold LineInv
  rw [lineHeld_freshState]
  simp [freshState, State.reset]

theorem quietInv_freshState (k : Straps) (s : State) : QuietInv (freshState k s) := fun _ =>
  ⟨rfl, rfl, rfl, fun t ht => by simp [freshState_tracks ht], rfl, rfl, rfl, rfl⟩

theorem roleInv_freshState (k : Straps) (s : State) : RoleInv (freshState k s) :=
  ⟨fun _ => ⟨rfl, fun _ => freshState_cues, rfl, rfl, rfl, rfl, rfl, rfl, rfl, rfl, rfl, rfl⟩,
    fun _ t ht => by simp [freshState_tracks ht], fun _ => rfl⟩

theorem peerInv_freshState (k : Straps) (s : State) : PeerInv (freshState k s) := by
  have hpeers : (freshState k s).station.peers = List.replicate 16 { present := false, info := none, ticks := 0 } := rfl
  refine ⟨rfl, fun p hp => ?_, ?_⟩
  · rw [hpeers] at hp
    simp [List.eq_of_mem_replicate hp]
  · rw [State.peerAt, hpeers, List.getElem?_replicate]
    split <;> rfl

theorem timerInv_freshState (k : Straps) (s : State) : TimerInv (freshState k s) := by
  cases hk : k.hold <;> simp [TimerInv, freshState, freshStation, State.reset, hk]

/-- No address has the seed 0 (R173). -/
theorem prngSeed_ne_zero (a : Addr) : prngSeed a ≠ 0#16 := by revert a; decide

/-- Every reset leaves a station on which every invariant holds (R178). -/
theorem sound_freshState (k : Straps) (s : State) : Sound (freshState k s) :=
  ⟨refInv_of_reset rfl, cueInv_freshState k s, lookInv_freshState k s, takeInv_freshState k s, flightInv_freshState k s,
    by simp [OutInv, freshState, State.reset], levelInv_freshState k s, trackInv_freshState k s,
    bookingInv_freshState k s, lineInv_freshState k s, quietInv_freshState k s, roleInv_freshState k s,
    peerInv_freshState k s, timerInv_freshState k s, prngSeed_ne_zero k.address⟩

/-- Settles O3: the reset state is what HARDWARE_RESET leaves. -/
theorem invariantsHoldAtReset : Obligations.InvariantsHoldAtReset := by
  have h := sound_freshState (latchStraps Config.resetStraps) State.reset
  rw [reset_eq_freshState] at h
  exact h

end Sys2Proof.Machine
end

/-! ## What leaves the cue table and the take unit as they were (R25, R93): claims, entries, cue outputs, and every row
but those of the table, the marks, the takes and the resets -/

section
namespace Sys2Proof.Machine

open Sys2Proof.Safety

/-- The cue table and the take unit are as they were. -/
structure TablesKept (s t : State) : Prop where
  cues : t.cues = s.cues
  takes : t.takes = s.takes

namespace TablesKept

theorem refl (s : State) : TablesKept s s := ⟨rfl, rfl⟩

theorem trans {s t u : State} (h : TablesKept s t) (k : TablesKept t u) : TablesKept s u :=
  ⟨k.cues.trans h.cues, k.takes.trans h.takes⟩

theorem cueAt {s t : State} (h : TablesKept s t) (slot : Nat) : t.cueAt slot = s.cueAt slot := by
  rw [State.cueAt, h.cues, State.cueAt]

theorem entries (es : List Entry) (s : State) : TablesKept s { s with entries := es } := ⟨rfl, rfl⟩

/-- What each step of a list does, the whole list does. -/
theorem foldl {α : Type} {f : State → α → State} (h : ∀ s x, TablesKept s (f s x)) (l : List α) (s : State) :
    TablesKept s (l.foldl f s) := by
  induction l generalizing s with
  | nil => exact refl s
  | cons x xs ih => exact (h s x).trans (ih (f s x))

end TablesKept

/-- An entry but for its claim and its gate evidence. -/
def Entry.unclaimed (e : Entry) : Entry :=
  { e with claim := .none, claimNo := none, denyReason := none, answerTimer := 0, resent := false
           gateSeenOpen := false, gateCut := false }

/-- The straps, the cue table, the take unit, and the entries but for their claims and gate evidence are as they were. -/
structure TakesKept (s t : State) : Prop extends TablesKept s t where
  straps : t.straps = s.straps
  entries : t.entries.map Entry.unclaimed = s.entries.map Entry.unclaimed

namespace TakesKept

theorem refl (s : State) : TakesKept s s := ⟨.refl s, rfl, rfl⟩

theorem trans {s t u : State} (h : TakesKept s t) (k : TakesKept t u) : TakesKept s u :=
  ⟨h.toTablesKept.trans k.toTablesKept, k.straps.trans h.straps, k.entries.trans h.entries⟩

theorem of_queueOnly {s t : State} (h : QueueOnly s t) : TakesKept s t := by
  refine ⟨⟨?_, ?_⟩, ?_, ?_⟩ <;> rw [h.state]

theorem of_recorderOnly {s t : State} (h : RecorderOnly s t) : TakesKept s t := by
  refine ⟨⟨?_, ?_⟩, ?_, ?_⟩ <;> rw [h.state]

/-- Entries changed one by one, in their claims or their gate evidence. -/
theorem mapEntries {f : Entry → Entry} (hf : ∀ e, (f e).unclaimed = e.unclaimed) (s : State) :
    TakesKept s { s with entries := s.entries.map f } :=
  ⟨⟨rfl, rfl⟩, rfl, by simp [Function.comp_def, hf]⟩

theorem updateEntry (slot : Nat) (f : Entry → Entry) (s : State) (hf : ∀ e, (f e).unclaimed = e.unclaimed) :
    TakesKept s (s.updateEntry slot f) :=
  mapEntries (fun e => by split <;> simp [hf]) s

theorem station (u : StationUnit) (s : State) : TakesKept s { s with station := u } := ⟨⟨rfl, rfl⟩, rfl, rfl⟩

theorem claimCounter (n : Byte) (s : State) : TakesKept s { s with claimCounter := n } := ⟨⟨rfl, rfl⟩, rfl, rfl⟩

theorem ref (r : RefUnit) (s : State) : TakesKept s { s with ref := r } := ⟨⟨rfl, rfl⟩, rfl, rfl⟩

end TakesKept

/-! ### The claim unit and the gate evidence -/

theorem takesKept_give (dest : Addr) (m : Message) (s : State) : TakesKept s (s.give dest m) :=
  .of_queueOnly (queueOnly_give dest m s)

theorem takesKept_setFlag (f : Flag) (s : State) : TakesKept s (s.setFlag f) := ⟨⟨rfl, rfl⟩, rfl, rfl⟩

theorem takesKept_withReceiver (r : Receiver) (s : State) : TakesKept s (s.withReceiver r) := ⟨⟨rfl, rfl⟩, rfl, rfl⟩

theorem takesKept_updatePeer (a : Addr) (f : Peer → Peer) (s : State) : TakesKept s (s.updatePeer a f) :=
  ⟨⟨rfl, rfl⟩, rfl, rfl⟩

theorem takesKept_out (o : Outputs) (s : State) : TakesKept s { s with out := o } := ⟨⟨rfl, rfl⟩, rfl, rfl⟩

theorem takesKept_releaseEntry (reason : ReleaseReason) (e : Entry) (s : State) :
    TakesKept s (releaseEntry reason e s) := by
  unfold releaseEntry
  split
  · exact (takesKept_give _ _ s).trans (.updateEntry _ _ _ (fun _ => rfl))
  · exact .updateEntry _ _ s (fun _ => rfl)

theorem takesKept_releaseClaim (reason : ReleaseReason) (slot : Nat) (s : State) :
    TakesKept s (releaseClaim reason slot s) := by
  unfold releaseClaim
  split
  · split
    · exact takesKept_releaseEntry _ _ s
    · exact .refl s
  · exact .refl s

theorem takesKept_releaseLimit (slot : Nat) (s : State) : TakesKept s (releaseLimit slot s) := by
  unfold releaseLimit
  split
  · split
    · exact takesKept_releaseEntry _ _ s
    · exact .refl s
  · exact .refl s

theorem takesKept_newClaim (slot : Nat) (s : State) : TakesKept s (newClaim slot s) := by
  have hsend (track : Byte) (c : Cue) (e : Entry) : TakesKept s (sendClaim track c e s) :=
    ((TakesKept.claimCounter _ s).trans (.updateEntry _ (Entry.claimed _) _ (fun _ => rfl))).trans (takesKept_give _ _ _)
  unfold newClaim
  split
  · split
    · split
      · exact hsend _ _ _
      · exact .updateEntry _ _ s (fun _ => rfl)
    · exact .refl s
  · exact .refl s

/-- An ANSWER (R118 to R122). -/
theorem takesKept_takeAnswer (m : AnswerMsg) (s : State) : TakesKept s (takeAnswer m s) := by
  have hgrant (e : Entry) : TakesKept s (grantEntry m e s) := by
    unfold grantEntry
    split
    · exact .refl s
    · exact takesKept_give _ _ s
    · exact .refl s
    all_goals
      split
      · exact takesKept_releaseEntry _ _ s
      · exact .updateEntry _ _ s (fun _ => rfl)
  have hdeny (r : DenyReason) (e : Entry) : TakesKept s (denyEntry r e s) := by
    cases hc : e.claim <;> simp only [denyEntry, hc]
    case none | granted | released => exact .refl s
    all_goals exact .updateEntry _ _ s (fun _ => rfl)
  unfold takeAnswer
  split
  · exact hgrant _
  · exact hdeny _ _
  · exact takesKept_give _ _ s
  · exact .refl s

theorem takesKept_answerExpired (e : Entry) (s : State) : TakesKept s (answerExpired e s) := by
  unfold answerExpired
  split
  · exact .updateEntry _ _ s (fun _ => rfl)
  · split
    · exact (TakesKept.updateEntry _ (fun x => { x with answerTimer := 40, resent := true }) s (fun _ => rfl)).trans
        (takesKept_give _ _ _)
    · exact .refl s

/-- A GATE reaches the evidence of one entry (R98). -/
theorem takesKept_gateEvidence (m : GateMsg) (s : State) : TakesKept s (gateEvidence m s) := by
  unfold gateEvidence
  split
  · split
    · exact .updateEntry _ _ s (fun e => by cases m.event <;> rfl)
    · exact .refl s
  · exact .refl s

theorem takesKept_claimsPeerLost (p : Peer) (s : State) : TakesKept s (claimsPeerLost p s) := by
  unfold claimsPeerLost
  split
  · split
    · exact .mapEntries (fun e => by unfold Entry.bankLost; split <;> rfl) s
    · exact .refl s
  · exact .refl s

/-! ### The cue outputs and the lookahead -/

theorem takesKept_settle (s : State) : TakesKept s s.settle := by
  unfold State.settle State.redraw
  split
  · split <;> exact ⟨⟨rfl, rfl⟩, rfl, rfl⟩
  · exact ⟨⟨rfl, rfl⟩, rfl, rfl⟩

theorem takesKept_settleBoundary (s : State) : TakesKept s s.settleBoundary :=
  (takesKept_out _ s).trans (takesKept_settle _)

theorem takesKept_beepMark (slot mark : Nat) (s : State) : TakesKept s (beepMark slot mark s) := by
  unfold beepMark
  split
  · split
    · exact .refl s
    · exact takesKept_out _ s
  · exact .refl s

theorem takesKept_ageBeeps (r : Report) (s : State) : TakesKept s (ageBeeps r s) := by
  unfold ageBeeps
  split
  · exact takesKept_out _ s
  · exact .refl s

theorem tablesKept_removeEntry (slot : Nat) (s : State) : TablesKept s (removeEntry slot s) := ⟨rfl, rfl⟩

theorem tablesKept_evict (slot : Nat) (s : State) : TablesKept s (evict slot s) :=
  (takesKept_releaseClaim _ _ s).toTablesKept.trans (tablesKept_removeEntry _ _)

theorem tablesKept_createEntry (slot : Nat) (s : State) : TablesKept s (createEntry slot s) := by
  unfold createEntry
  split
  · exact (TablesKept.entries _ s).trans (takesKept_newClaim _ _).toTablesKept
  · exact .refl s

/-- A recomputation makes and removes entries, and reads the table (R52 to R55). -/
theorem tablesKept_recompute (s : State) : TablesKept s (recompute s) := by
  have hreform : TablesKept s (reform s) :=
    ((TablesKept.entries _ s).trans (.foldl (fun t slot => tablesKept_evict slot t) _ _)).trans
      (.foldl (fun t slot => tablesKept_createEntry slot t) _ _)
  unfold recompute
  split
  · exact hreform
  · exact .refl s

theorem tablesKept_tableChanged (s : State) : TablesKept s (tableChanged s) :=
  (tablesKept_recompute s).trans (takesKept_settle _).toTablesKept

theorem tablesKept_rebuildEntry (slot : Nat) (s : State) : TablesKept s (rebuildEntry slot s) := by
  unfold rebuildEntry
  split
  · split
    · exact (TablesKept.entries _ s).trans (takesKept_newClaim _ _).toTablesKept
    · exact .entries _ s
  · exact .refl s

theorem tablesKept_rebuild (s : State) : TablesKept s (rebuild s) :=
  (((tablesKept_recompute s).trans (takesKept_out _ _).toTablesKept).trans
    (.foldl (fun t slot => tablesKept_rebuildEntry slot t) _ _)).trans (.entries _ _)

theorem tablesKept_standDown (slot : Nat) (s : State) : TablesKept s (standDown slot s) :=
  (takesKept_releaseClaim _ _ s).toTablesKept.trans (.mk rfl rfl)

/-! ### The rows that reach neither -/

theorem takesKept_takePositionBit (bit : Bool) (s : State) : TakesKept s (takePositionBit bit s) := by
  have hword (u : State) : TakesKept u (completeWord u) := by
    unfold completeWord
    split
    · split
      · exact ⟨⟨rfl, rfl⟩, rfl, rfl⟩
      · exact takesKept_setFlag _ u
    · exact takesKept_setFlag _ u
  unfold takePositionBit
  split
  · exact .ref _ s
  · split
    · exact (TakesKept.ref _ s).trans (hword _)
    · exact takesKept_setFlag _ s

theorem takesKept_ticked (s : State) : TakesKept s (ticked s) :=
  .trans (.mapEntries (fun e => by unfold Entry.tickTimer; split <;> rfl) s) ⟨⟨rfl, rfl⟩, rfl, rfl⟩

theorem takesKept_enterActive (s : State) : TakesKept s (enterActive s) :=
  (((TakesKept.station _ s).trans (.of_queueOnly (queueOnly_giveBeacon _))).trans (.station _ _)).trans
    (takesKept_settle _)

theorem takesKept_losePeer (a : Addr) (p : Peer) (s : State) : TakesKept s (losePeer a p s) :=
  ((((takesKept_updatePeer a _ s).trans (takesKept_claimsPeerLost p _)).trans (takesKept_out _ _)).trans
    (.of_recorderOnly (recorderOnly_reservationsPeerLost a _))).trans (takesKept_settle _)

theorem takesKept_quietLine (n : Nat) (s : State) : TakesKept s (quietLine n s) := by
  rcases quietLine_cases n s with ⟨-, h⟩ | ⟨-, h⟩ <;> rw [h] <;> exact ⟨⟨rfl, rfl⟩, rfl, rfl⟩

theorem takesKept_attemptStart (time : LineTime) (s : State) :
    TakesKept s (turnBusy time.busy (attemptHead (quietLine time.quiet s))) := by
  have hhead (u : State) : TakesKept u (attemptHead u) := by
    rcases attemptHead_cases u with ⟨m, rest, -, -, -, -, h⟩ | h <;> rw [h] <;> exact ⟨⟨rfl, rfl⟩, rfl, rfl⟩
  have hbusy (u : State) : TakesKept u (turnBusy time.busy u) := by
    rcases turnBusy_cases time.busy u with ⟨-, -, -, h⟩ | h <;> rw [h] <;> exact ⟨⟨rfl, rfl⟩, rfl, rfl⟩
  exact ((takesKept_quietLine _ s).trans (hhead _)).trans (hbusy _)

theorem takesKept_judgeSend (kind dest : Byte) (payload : List Byte) (s : State) :
    TakesKept s (judgeSend kind dest payload s).1 := by
  have hoffer (a : Addr) (m : Message) : TakesKept s (panelOffer a m s).1 := by
    unfold panelOffer
    split <;> exact ⟨⟨rfl, rfl⟩, rfl, rfl⟩
  unfold judgeSend
  split
  · exact .refl s
  · split
    · exact .refl s
    · split
      · unfold sendMessage
        split
        · exact .refl s
        · split
          · exact hoffer _ _
          · exact .refl s
      · exact .refl s

/-- The rows that can reach the cue table or the take unit: the resets but RELEASE_HOLD, the pulses and the loss by
time, and whatever takes a header, a frame or a sent ABORT. -/
def reachesTables : Instr → Bool
  | .hardwareReset _ | .resetRestart _ | .resetClear | .resetEngine | .linePulse | .framePulse _ | .lossByTime
  | .headerReceived _ _ | .cutShortFrame _ | .beacon _ _ | .claim _ _ | .answer _ _ | .release _ _ | .gate _ _
  | .abort _ _ | .load _ _ | .clear _ _ | .selectOn _ _ | .selectOff _ _ | .digest _ _ | .mark _ _ | .reply _ _
  | .takeNote _ _ | .frameSent | .frameJudgedBad _ _ _ => true
  | _ => false

/-- Every other row leaves them as they were, with the entries but for their claims. -/
theorem exec_takesKept {c : Instr} {s t : State} (hc : reachesTables c = false) (h : exec c s = .next t) :
    TakesKept s t := by
  cases c
  case hardwareReset | resetRestart | resetClear | resetEngine | linePulse | framePulse | lossByTime | headerReceived
    | cutShortFrame | beacon | claim | answer | release | gate | abort | load | clear | selectOn | selectOff | digest
    | mark | reply | takeNote | frameSent | frameJudgedBad => cases hc
  all_goals obtain rfl := Host.Outcome.next.inj h
  case status | read | ackFlags | setMask | badRequest | transactionAbandoned | transactionEnd =>
    exact ⟨⟨rfl, rfl⟩, rfl, rfl⟩
  case popInbox => unfold popInbox; split <;> exact ⟨⟨rfl, rfl⟩, rfl, rfl⟩
  case send => exact (takesKept_judgeSend _ _ _ s).trans ⟨⟨rfl, rfl⟩, rfl, rfl⟩
  case releaseHold =>
    split
    · exact ((TakesKept.station _ s).trans (takesKept_settle _)).trans ⟨⟨rfl, rfl⟩, rfl, rfl⟩
    · exact ⟨⟨rfl, rfl⟩, rfl, rfl⟩
  case sweep => unfold takeSweep; split <;> exact ⟨⟨rfl, rfl⟩, rfl, rfl⟩
  case positionBit => exact takesKept_takePositionBit _ s
  case tick => exact takesKept_ticked s
  case answerTimerExpiry =>
    unfold takeAnswerExpiry
    split
    · split
      · exact takesKept_answerExpired _ s
      · exact .refl s
    · exact .refl s
  case joinTimerExpiry =>
    split
    · exact takesKept_enterActive s
    · exact .refl s
  case beaconTimerExpiry =>
    split
    · exact .trans (.of_queueOnly (queueOnly_giveBeacon s)) ⟨⟨rfl, rfl⟩, rfl, rfl⟩
    · exact .refl s
  case peerLoss =>
    unfold takePeerLoss
    split
    · split
      · exact takesKept_losePeer _ _ s
      · exact .refl s
    · exact .refl s
  case attemptStart => exact takesKept_attemptStart _ s
  case collision =>
    split
    · unfold collide
      split <;> exact ⟨⟨rfl, rfl⟩, rfl, rfl⟩
    · exact .refl s

end Sys2Proof.Machine
end

/-! ## LOAD, DIGEST and MARK at a booth (R27 to R34, R40 to R42, R108, R109) -/

section
namespace Sys2Proof.Machine

open Sys2Proof.Safety

/-! ### Rows of the cue table -/

/-- A message for a booth's tables that is handed to a booth under its own address is the booth's action (R27). -/
theorem takeFrame_of_table {h : FrameHead} {m : Message} {s : State} (hh : handed h m s)
    (hr : s.straps.role = .booth) (hb : h.broadcast = false) (kind : AnsweredKind) (slot : Byte)
    (act : State → State) : takeFrame h m (ifAddressed h (forTables kind h slot act)) s = act (judged s) := by
  rw [takeFrame_of_handed hh]
  simp [ifAddressed, hb, forTables, judged, hr]

/-- What a booth's blocks leave as it was from the judged frame on, where the table and the take unit are these. -/
theorem keptByTable_of_boothOnly {s t : State} (h : BoothOnly (judged s) t) {cues : List (Option Cue)} {takes : TakeUnit}
    (hc : t.cues = cues) (ht : t.takes = takes) : keptByTable s t cues takes := by
  subst hc ht
  refine h.state.trans ?_
  rw [← h.deskLog]
  rfl

/-- After a change of the table LIGHT stands as the state gives it (R85). -/
theorem tableChanged_light (s : State) : (tableChanged s).out.light = (tableChanged s).lightLevel :=
  congrArg (fun u => u.out.light) (eq_of_settle (s := recompute s) rfl)

/-! ### LOAD (R31 to R34) -/

/-- Each bit of the clamped-fields set is that of its field (R194). -/
theorem getLsbD_clampedSet (m : LoadMsg) :
    (clampedSet m).getLsbD 0 = (clampStreamer m.streamer).2 ∧ (clampedSet m).getLsbD 1 = (clampTo 0 3 m.beepCount).2 ∧
      (clampedSet m).getLsbD 2 = (clampTo 1 4 m.beepDur).2 ∧ (clampedSet m).getLsbD 3 = (clampTo 0 60 m.pre).2 ∧
      (clampedSet m).getLsbD 4 = (clampTo 0 60 m.post).2 ∧ (clampedSet m).getLsbD 5 = (clampTo 0 14 m.textLen).2 ∧
      (clampedSet m).getLsbD 6 = false ∧ (clampedSet m).getLsbD 7 = false := by
  unfold clampedSet
  generalize (clampStreamer m.streamer).2 = a, (clampTo 0 3 m.beepCount).2 = b, (clampTo 1 4 m.beepDur).2 = c,
    (clampTo 0 60 m.pre).2 = d, (clampTo 0 60 m.post).2 = e, (clampTo 0 14 m.textLen).2 = f
  revert a b c d e f
  decide

theorem clampTo_toNat {lo hi : Nat} (b : Byte) (h : lo ≤ hi) (hb : hi < 256) :
    (clampTo lo hi b).1.toNat = min (max b.toNat lo) hi := by
  unfold clampTo byte
  split
  · simp; omega
  · split
    · simp; omega
    · simp; omega

theorem clampTo_changed (lo hi : Nat) (b : Byte) :
    (clampTo lo hi b).2 = decide (b.toNat < lo ∨ hi < b.toNat) := by
  unfold clampTo
  split
  · simp [*]
  · split <;> simp [*]

/-- A field without a least value is clamped at its greatest. -/
theorem clampTo_below {hi : Nat} (b : Byte) (hb : hi < 256) : (clampTo 0 hi b).1.toNat = min b.toNat hi := by
  rw [clampTo_toNat b (Nat.zero_le _) hb, Nat.max_zero]

theorem clampTo_upper {hi : Nat} (b : Byte) : (clampTo 0 hi b).2 = decide (hi + 1 ≤ b.toNat) := by
  rw [clampTo_changed]
  exact decide_eq_decide.mpr (by omega)

theorem clampStreamer_toNat (b : Byte) :
    (clampStreamer b).1.toNat = if b.toNat = 0 then 0 else min (max b.toNat 8) 240 := by
  unfold clampStreamer
  split
  · assumption
  · exact clampTo_toNat b (by decide) (by decide)

theorem clampStreamer_changed (b : Byte) :
    (clampStreamer b).2 = decide ((1 ≤ b.toNat ∧ b.toNat ≤ 7) ∨ 241 ≤ b.toNat) := by
  unfold clampStreamer
  split
  · simp [*]
  · rw [clampTo_changed]
    exact decide_eq_decide.mpr (by omega)

/-- What a LOAD that is not refused has been found to be (R31). -/
theorem judgeLoad_ok {m : LoadMsg} {s : State} {c e : Nat} (h : judgeLoad m s = .ok (c, e)) :
    countOfLabel s.straps.profile m.inLabel = some c ∧ countOfLabel s.straps.profile m.outLabel = some e ∧
      (1 ≤ fwd s.day c e ∧ fwd s.day c e ≤ 9000) ∧ (m.track.toNat ≤ 15 ∨ m.track = 255#8) := by
  unfold judgeLoad at h
  split at h
  · cases h
  · split at h
    · next c' e' hc he =>
      split at h
      · cases h
      · split at h
        · cases h
        · split at h
          · cases h
          · next hrange htrack _ =>
            obtain ⟨rfl, rfl⟩ := Prod.mk.inj (Except.ok.inj h)
            refine ⟨hc, he, by omega, ?_⟩
            have hlt := m.track.isLt
            rcases Nat.lt_or_ge 15 m.track.toNat with hgt | hle
            · exact .inr (BitVec.eq_of_toNat_eq (by simp; omega))
            · exact .inl hle
    · cases h

/-- The take fields of the same cue are kept, and those of another start again (R34). -/
theorem keptTakes_same {m : LoadMsg} {old : Cue} (h : old.cueId = m.cueId) :
    keptTakes m.cueId (some old) =
      { takeCount := old.takeCount, lastResult := old.lastResult, circled := old.circled } := by
  simp [keptTakes, h]

theorem keptTakes_other {m : LoadMsg} {held : Option Cue} (h : ∀ old, held = some old → old.cueId ≠ m.cueId) :
    keptTakes m.cueId held = { takeCount := 0, lastResult := none, circled := 0 } := by
  cases held with
  | none => rfl
  | some old => simp [keptTakes, h old rfl]

/-- The REPLY of a LOAD that is stored says what was clamped (R33). -/
theorem loadReply_eq (m : LoadMsg) : loadReply m =
    { kind := .load, slot := m.slot, result := if clampedSet m = 0#8 then .accepted else .clamped
      clamped := if clampedSet m = 0#8 then none else some (clampedSet m), digest := none } := by
  unfold loadReply plainReply
  split <;> rfl

/-- The refusal of a LOAD, none where it is stored (R31). -/
def refusalOf : Except ReplyResult (Nat × Nat) → Option ReplyResult
  | .ok _ => none
  | .error r => some r

theorem takeLoad_of_ok {source : Addr} {m : LoadMsg} {s : State} {c e : Nat} (h : judgeLoad m s = .ok (c, e)) :
    takeLoad source m s = tableChanged (giveReply source (loadReply m)
      (s.setCue m.slot.toNat (some (cueOfLoad m c e (s.cueAt m.slot.toNat))))) := by
  simp [takeLoad, h]

theorem takeLoad_of_error {source : Addr} {m : LoadMsg} {s : State} {r : ReplyResult}
    (h : judgeLoad m s = .error r) : takeLoad source m s = giveReply source (plainReply .load m.slot r) s := by
  simp [takeLoad, h]

/-- A LOAD that is stored leaves all but the table and what the lookahead and the outputs make of it. -/
theorem boothOnly_takeLoad (source : Addr) (m : LoadMsg) (s : State) : BoothOnly s (takeLoad source m s) := by
  unfold takeLoad giveReply
  split
  · exact ((boothOnly_setCue _ _ s).trans (boothOnly_give _ _ _)).trans (boothOnly_tableChanged _)
  · exact boothOnly_give _ _ s

/-- Settles O53: the refusals are those of `judgeLoad`, and a LOAD that is stored writes the cue of `cueOfLoad`. -/
theorem loadIsRefusedInOrderOrStored : Obligations.LoadIsRefusedInOrderOrStored := by
  intro h m s hh hr hb
  have hexec : exec (.load h m) s = .next (takeLoad h.source m (judged s)) :=
    congrArg Host.Outcome.next (takeFrame_of_table hh hr hb _ _ _)
  refine ⟨refusalOf (judgeLoad m s), ?order, fun r hrefused => ?refused, fun hstored => ?stored⟩
  case order =>
    rcases hin : countOfLabel s.straps.profile m.inLabel with _ | c <;>
      rcases hout : countOfLabel s.straps.profile m.outLabel with _ | e
    all_goals
      simp only [judgeLoad, hin, hout]
      split_ifs <;> rfl
  case refused =>
    cases hj : judgeLoad m s with
    | ok => simp [hj, refusalOf] at hrefused
    | error r' =>
      obtain rfl : r' = r := by simpa [hj, refusalOf] using hrefused
      rw [hexec, takeLoad_of_error (s := judged s) hj]
      rfl
  case stored =>
    cases hj : judgeLoad m s with
    | error r => simp [hj, refusalOf] at hstored
    | ok counts =>
      obtain ⟨c, e⟩ := counts
      obtain ⟨hc, he, -, -⟩ := judgeLoad_ok hj
      have ht := takeLoad_of_ok (source := h.source) (s := judged s) hj
      have hkept := boothOnly_takeLoad h.source m (judged s)
      have htables : TablesKept ((judged s).setCue m.slot.toNat (some (cueOfLoad m c e (s.cueAt m.slot.toNat))))
          (takeLoad h.source m (judged s)) := by
        rw [ht]
        exact (takesKept_give _ _ _).toTablesKept.trans (tablesKept_tableChanged _)
      obtain ⟨hb0, hb1, hb2, hb3, hb4, hb5, hb6, hb7⟩ := getLsbD_clampedSet m
      refine ⟨takeLoad h.source m (judged s), cueOfLoad m c e (s.cueAt m.slot.toNat), clampedSet m, hexec,
        keptByTable_of_boothOnly hkept htables.cues htables.takes, hkept.flags, ?whole,
        hb0.trans (clampStreamer_changed _), hb1.trans (clampTo_upper _), hb2.trans ?duration, hb3.trans (clampTo_upper _),
        hb4.trans (clampTo_upper _), hb5.trans (clampTo_upper _), hb6, hb7, rfl, rfl, rfl, rfl, hc, he, rfl,
        clampStreamer_toNat _, clampTo_below _ (by decide), clampTo_toNat _ (by decide) (by decide),
        clampTo_below _ (by decide), clampTo_below _ (by decide), ?text, fun old hold hid => ?same, fun hother => ?other,
        ?light⟩
      case whole =>
        rw [ht, loadReply_eq]
        rfl
      case duration =>
        rw [clampTo_changed]
        exact decide_eq_decide.mpr (by omega)
      case text => exact congrArg (List.take · m.text) (clampTo_below _ (by decide))
      case same => simp [cueOfLoad, hold, keptTakes_same hid]
      case other => simp [cueOfLoad, keptTakes_other hother]
      case light =>
        rw [ht]
        exact tableChanged_light _

/-! ### Slots that are changed in place -/

/-- A slot that is written reads as written, where it is a slot of the table. -/
theorem cueAt_setCue_same {slot : Nat} {s : State} (h : slot < s.cues.length) (c : Option Cue) :
    (s.setCue slot c).cueAt slot = c := by
  simp [State.cueAt, h]

theorem cueAt_setCue_other {slot other : Nat} (h : other ≠ slot) (c : Option Cue) (s : State) :
    (s.setCue slot c).cueAt other = s.cueAt other := by
  simp [State.cueAt, h.symm]

theorem lt_length_of_cueAt {slot : Nat} {s : State} {c : Cue} (h : s.cueAt slot = some c) : slot < s.cues.length := by
  rw [State.cueAt, Option.join_eq_some_iff] at h
  exact (List.getElem?_eq_some_iff.mp h).1

/-- A LOADED slot that is changed in place holds the changed cue, and an EMPTY one stays EMPTY. -/
theorem cueAt_updateCue_same (slot : Nat) (f : Cue → Cue) (s : State) :
    (s.updateCue slot f).cueAt slot = (s.cueAt slot).map f := by
  unfold State.updateCue
  split
  · next c hc => rw [cueAt_setCue_same (lt_length_of_cueAt hc), hc, Option.map_some]
  · next hc => rw [hc, Option.map_none]

theorem cueAt_updateCue_other {slot other : Nat} (h : other ≠ slot) (f : Cue → Cue) (s : State) :
    (s.updateCue slot f).cueAt other = s.cueAt other := by
  unfold State.updateCue
  split
  · exact cueAt_setCue_other h _ s
  · rfl

theorem updateCue_of_empty {slot : Nat} {s : State} (h : s.cueAt slot = none) (f : Cue → Cue) :
    s.updateCue slot f = s := by
  simp [State.updateCue, h]

/-- Only the table is written where a slot is changed in place, and there only that slot. -/
theorem updateCue_eq (slot : Nat) (f : Cue → Cue) (s : State) :
    s.updateCue slot f = { s with cues := s.cues.modify slot (Option.map f) } := by
  have hcues : (s.updateCue slot f).cues = s.cues.modify slot (Option.map f) := by
    refine List.ext_getElem? fun i => ?_
    rw [List.getElem?_modify, State.updateCue]
    by_cases hi : slot = i
    · subst hi
      split
      · next c hc =>
        have hlt := lt_length_of_cueAt hc
        rw [State.cueAt, Option.join_eq_some_iff] at hc
        rw [State.setCue_cues, List.getElem?_set_self hlt, hc]
        simp
      · next hc =>
        rw [State.cueAt, Option.join_eq_none_iff] at hc
        rcases hc with hc | hc <;> rw [hc] <;> simp
    · split <;> simp [hi]
  rw [← hcues]
  unfold State.updateCue
  split <;> rfl

/-! ### DIGEST and MARK (R40 to R42, R108, R109) -/

/-- The REPLY to a DIGEST, the count compared as a byte (R40). -/
theorem digestReply_eq (m : DigestMsg) (s : State) : digestReply m s =
    if 127 < m.first.toNat then plainReply .digest m.first .badSlot
    else if m.count = 0#8 then plainReply .digest m.first .badRange
    else
      { kind := .digest, slot := m.first, result := .accepted, clamped := none,
        digest := some
          (crc16 (((s.cues.drop m.first.toNat).take (min m.count.toNat (128 - m.first.toNat))).flatMap imageOf),
            byte (min m.count.toNat (128 - m.first.toNat))) } := by
  have hzero : m.count.toNat = 0 ↔ m.count = 0#8 := by rw [BitVec.toNat_eq]; simp
  simp only [digestReply, hzero, State.digestOf, usedCount]

/-- The three answers to a MARK: no record, a take in flight, and the newest record circled (R108, R109). -/
theorem markTake_of_none {m : MarkMsg} {s : State} (h : markedRecords m s = []) : markTake m s = (s, .notFound) := by
  simp [markTake, h]

theorem markTake_of_inFlight {m : MarkMsg} {s : State} {r : LogRecord} (h : (markedRecords m s).getLast? = some r)
    (hr : r.result = .inFlight) : markTake m s = (s, .inFlight) := by
  simp [markTake, h, hr]

theorem markTake_of_ended {m : MarkMsg} {s : State} {r : LogRecord} (h : (markedRecords m s).getLast? = some r)
    (hr : r.result ≠ .inFlight) : markTake m s =
      ((s.updateRecord r.serial (fun x => { x with circled := m.circle })).updateCue m.slot.toNat (circleCue m r),
        .accepted) := by
  simp [markTake, h, hr]

/-- The circled take is the only field of a cue that a MARK writes (R109). -/
theorem circleCue_eq (m : MarkMsg) (r : LogRecord) (c : Cue) : circleCue m r c =
    { c with circled :=
      if c.cueId = r.cueId then (if m.circle then m.take.toNat else if c.circled = m.take.toNat then 0 else c.circled)
      else c.circled } := by
  unfold circleCue
  split_ifs <;> rfl

/-- Settles O55: DIGEST is one REPLY, and MARK one of three, by the newest record that it names. -/
theorem digestAndMarkAreAnswered : Obligations.DigestAndMarkAreAnswered := by
  intro h s hr hb
  refine ⟨fun m hh => ?digest, fun m hh => ?mark⟩
  case digest =>
    refine congrArg Host.Outcome.next ((takeFrame_of_table hh hr hb _ _ _).trans ?_)
    rw [takeDigest, digestReply_eq]
    rfl
  case mark =>
    have hexec : exec (.mark h m) s = .next (takeMarkMessage h.source m (judged s)) :=
      congrArg Host.Outcome.next (takeFrame_of_table hh hr hb _ _ _)
    refine ⟨fun hnone => ?_, fun r hlast => ⟨fun hflight => ?_, fun hended => ?_⟩⟩
    · rw [hexec, takeMarkMessage, markTake_of_none (s := judged s) hnone]
      rfl
    · rw [hexec, takeMarkMessage, markTake_of_inFlight (s := judged s) hlast hflight]
      rfl
    · rw [hexec, takeMarkMessage, markTake_of_ended (s := judged s) hlast hended]
      refine ⟨_, rfl, by rw [updateCue_eq]; rfl, fun slot hslot => cueAt_updateCue_other hslot _ _,
        fun hempty => ?_, fun c hc => ?_⟩
      · have hsame := updateCue_of_empty
          (s := (judged s).updateRecord r.serial (fun x => { x with circled := m.circle })) hempty (circleCue m r)
        exact (congrArg State.cues hsame :)
      · rw [cueAt_updateCue_same]
        exact (congrArg (Option.map (circleCue m r)) hc).trans (congrArg some (circleCue_eq m r c))

end Sys2Proof.Machine
end

/-! ## What the table keeps of a LOAD (R25, R31 to R34): takes write the take fields of a slot, SELECT its selected flag,
and nothing else but LOAD, CLEAR and a reset writes the table -/

section
namespace Sys2Proof.Machine

open Sys2Proof.Safety

/-- A cue but for its take fields. -/
def Cue.untaken (c : Cue) : Cue := { c with takeCount := 0, lastResult := none, circled := 0 }

/-- Every slot is as it was, but for the take fields of its cue. -/
structure LoadedKept (s t : State) : Prop where
  cues : t.cues.map (Option.map Cue.untaken) = s.cues.map (Option.map Cue.untaken)

namespace LoadedKept

theorem of_cues {s t : State} (h : t.cues = s.cues) : LoadedKept s t := ⟨by rw [h]⟩

theorem of_tables {s t : State} (h : TablesKept s t) : LoadedKept s t := of_cues h.cues

theorem of_takes {s t : State} (h : TakesKept s t) : LoadedKept s t := of_cues h.cues

theorem refl (s : State) : LoadedKept s s := of_cues rfl

theorem trans {s t u : State} (h : LoadedKept s t) (k : LoadedKept t u) : LoadedKept s u := ⟨k.cues.trans h.cues⟩

theorem of_recorderOnly {s t : State} (h : RecorderOnly s t) : LoadedKept s t := of_takes (.of_recorderOnly h)

/-- What each step of a list does, the whole list does. -/
theorem foldl {α : Type} {f : State → α → State} (h : ∀ s x, LoadedKept s (f s x)) (l : List α) (s : State) :
    LoadedKept s (l.foldl f s) := by
  induction l generalizing s with
  | nil => exact refl s
  | cons x xs ih => exact (h s x).trans (ih (f s x))

theorem length {s t : State} (h : LoadedKept s t) : t.cues.length = s.cues.length := by
  simpa using congrArg List.length h.cues

theorem cueAt {s t : State} (h : LoadedKept s t) (slot : Nat) :
    (t.cueAt slot).map Cue.untaken = (s.cueAt slot).map Cue.untaken := by
  have hget := congrArg (fun l => (l[slot]?).join) h.cues
  simp only [List.getElem?_map] at hget
  unfold State.cueAt
  cases ht : t.cues[slot]? <;> cases hs : s.cues[slot]? <;> simp_all

/-- The table read through the part of a cue that is kept. -/
theorem map_eq {α : Type} {s t : State} (h : LoadedKept s t) (f : Option Cue → α)
    (hf : ∀ c, f (c.map Cue.untaken) = f c) : t.cues.map f = s.cues.map f := by
  have hread (l : List (Option Cue)) : (l.map (Option.map Cue.untaken)).map f = l.map f := by
    simp [hf]
  rw [← hread, h.cues, hread]

/-- The canonical images are those that were (R41). -/
theorem images {s t : State} (h : LoadedKept s t) : t.cues.map imageOf = s.cues.map imageOf :=
  h.map_eq imageOf (fun c => by cases c <;> rfl)

theorem selected {s t : State} (h : LoadedKept s t) :
    t.cues.map (Option.map Cue.selected) = s.cues.map (Option.map Cue.selected) :=
  h.map_eq (Option.map Cue.selected) (fun c => by cases c <;> rfl)

/-- The tracks of the slots are those that were (R113). -/
theorem trackOf {s t : State} (h : LoadedKept s t) (slot : Nat) : t.trackOf slot = s.trackOf slot := by
  have hread (c : Option Cue) : c.bind Cue.track = (c.map Cue.untaken).bind Cue.track := by cases c <;> rfl
  rw [State.trackOf, hread, h.cueAt, ← hread]
  rfl

end LoadedKept

/-! ### The take unit -/

/-- Slots written in place keep what their cues hold beside the take fields. -/
theorem loadedKept_modify {f : Cue → Cue} (hf : ∀ c, (f c).untaken = c.untaken) {s t : State} {slot : Nat}
    (ht : t.cues = s.cues.modify slot (Option.map f)) : LoadedKept s t := by
  constructor
  rw [ht]
  refine List.ext_getElem? fun i => ?_
  rw [List.getElem?_map, List.getElem?_map, List.getElem?_modify]
  split
  · cases s.cues[i]? <;> simp [Function.comp_def, hf]
  · simp

theorem startTake_eq (slot : Nat) (c : Cue) (e : Entry) (s : State) : startTake slot c e s =
    { s with
      takes := startLog slot c e (decide (s.ref.transport = .vari)) s.takes
      cues := s.cues.modify slot (Option.map fun x => { x with takeCount := c.takeCount + 1, lastResult := some .inFlight })
      entries := s.entries.map fun x =>
        if x.slot == slot then { x with take := .running, serial := some (s.takes.serial + 1#16) } else x } := by
  rw [startTake, updateCue_eq]
  rfl

/-- The record of a serial closed, and every other as it is (R101, R104). -/
def LogRecord.closed (result : TakeResult) (stop : Nat) (serial : Word16) (r : LogRecord) : LogRecord :=
  if r.serial == serial then { r with result := result, stop := some stop } else r

@[simp] theorem LogRecord.closed_serial (result : TakeResult) (stop : Nat) (serial : Word16) (r : LogRecord) :
    (r.closed result stop serial).serial = r.serial := by
  unfold LogRecord.closed
  split <;> rfl

@[simp] theorem LogRecord.closed_take (result : TakeResult) (stop : Nat) (serial : Word16) (r : LogRecord) :
    (r.closed result stop serial).take = r.take := by
  unfold LogRecord.closed
  split <;> rfl

theorem LogRecord.closed_of_ne {result : TakeResult} {stop : Nat} {serial : Word16} {r : LogRecord}
    (h : r.serial ≠ serial) : r.closed result stop serial = r := by
  simp [LogRecord.closed, h]

/-- The take unit without a take that has ended: its record closed, its journal record emptied (R101, R104, R106). -/
def TakeUnit.closed (result : TakeResult) (stop : Nat) (serial : Word16) (u : TakeUnit) : TakeUnit :=
  { u with
    log := u.log.map (LogRecord.closed result stop serial)
    journal := u.journal.filter (fun j => j.serial != serial) }

/-- A take that has ended, but for its TAKE_NOTE and TAKE_END. -/
def closedTake (result : TakeResult) (stop slot : Nat) (serial : Word16) (s : State) : State :=
  { s with
    takes := s.takes.closed result stop serial
    cues := s.cues.modify slot (Option.map fun c => { c with lastResult := some result })
    entries := s.entries.map fun e => if e.slot == slot then { e with take := .ended } else e }

theorem closeTake_eq (result : TakeResult) (stop slot : Nat) (serial : Word16) (s : State) :
    closeTake result stop slot serial s =
      (giveNote serial (closedTake result stop slot serial s)).setFlag .takeEnd := by
  rw [closeTake, updateCue_eq]
  rfl

theorem queueOnly_giveNote (serial : Word16) (s : State) : QueueOnly s (giveNote serial s) := by
  unfold giveNote
  split
  · exact queueOnly_give _ _ s
  · exact .refl s

theorem queueOnly_closeTake (result : TakeResult) (stop slot : Nat) (serial : Word16) (s : State) :
    QueueOnly (closedTake result stop slot serial s) (closeTake result stop slot serial s) := by
  rw [closeTake_eq]
  exact (queueOnly_giveNote _ _).trans (queueOnly_setFlag _ _)

/-- The take unit without a take that is undone: its displaced record put back, its journal record emptied (R105). -/
def TakeUnit.unwound (j : JournalRecord) (u : TakeUnit) : TakeUnit :=
  { u with log := unwindLog u.serial j u.log, journal := u.journal.filter (fun x => x.serial != j.serial) }

theorem unwindTake_eq {slot : Nat} {serial : Word16} {j : JournalRecord} {s : State}
    (hj : s.takes.journal.find? (fun j => j.serial == serial) = some j) : unwindTake slot serial s =
      { s with
        takes := s.takes.unwound j
        cues := s.cues.modify slot (Option.map fun c => { c with lastResult := j.lastResult, takeCount := j.takeCount })
        entries := s.entries.map fun e => if e.slot == slot then { e with take := .ended, serial := none } else e } := by
  have hserial : j.serial = serial := by simpa using List.find?_some hj
  subst hserial
  simp only [unwindTake, hj, updateCue_eq]
  rfl

theorem loadedKept_closeTake (result : TakeResult) (stop slot : Nat) (serial : Word16) (s : State) :
    LoadedKept s (closeTake result stop slot serial s) := by
  refine .trans (t := closedTake result stop slot serial s) ?_
    (.of_takes (.of_queueOnly (queueOnly_closeTake result stop slot serial s)))
  exact loadedKept_modify (f := fun c => { c with lastResult := some result }) (fun _ => rfl) rfl

theorem loadedKept_unwindTake (slot : Nat) (serial : Word16) (s : State) :
    LoadedKept s (unwindTake slot serial s) := by
  rcases hj : s.takes.journal.find? (fun j => j.serial == serial) with _ | j
  · rw [unwindTake, hj]
    exact .refl s
  · rw [unwindTake_eq hj]
    exact loadedKept_modify (f := fun c => { c with lastResult := j.lastResult, takeCount := j.takeCount })
      (fun _ => rfl) rfl

theorem loadedKept_stopTake (e : Entry) (serial : Word16) (s : State) : LoadedKept s (stopTake e serial s) := by
  unfold stopTake
  split
  · exact loadedKept_closeTake _ _ _ _ s
  · exact loadedKept_unwindTake _ _ s

theorem loadedKept_releaseClaim (reason : ReleaseReason) (slot : Nat) (s : State) :
    LoadedKept s (releaseClaim reason slot s) := .of_takes (takesKept_releaseClaim reason slot s)

theorem loadedKept_abortTake (cause : TakeCause) (slot : Nat) (s : State) : LoadedKept s (abortTake cause slot s) := by
  unfold abortTake
  split
  · split
    · split
      · exact (loadedKept_stopTake _ _ s).trans (loadedKept_releaseClaim _ _ _)
      · exact loadedKept_stopTake _ _ s
    · exact .refl s
  · exact .refl s

theorem loadedKept_abortTakes (cause : TakeCause) (s : State) : LoadedKept s (abortTakes cause s) :=
  .foldl (fun t slot => loadedKept_abortTake cause slot t) _ s

theorem loadedKept_punchInTake (slot : Nat) (s : State) : LoadedKept s (punchInTake slot s) := by
  have hgivenBack (f : Entry → Entry) : LoadedKept s ((releaseLimit slot s).updateEntry slot f) :=
    (LoadedKept.of_takes (takesKept_releaseLimit slot s)).trans (.of_cues rfl)
  have hstart (c : Cue) (e : Entry) : LoadedKept s (startTake slot c e s) := by
    rw [startTake_eq]
    exact loadedKept_modify (f := fun x => { x with takeCount := c.takeCount + 1, lastResult := some .inFlight })
      (fun _ => rfl) rfl
  unfold punchInTake
  split
  · split_ifs
    · exact .refl s
    · exact .refl s
    · exact .refl s
    · exact hgivenBack _
    · exact hgivenBack _
    · exact hstart _ _
  · exact .refl s

theorem loadedKept_punchOutTake (slot : Nat) (s : State) : LoadedKept s (punchOutTake slot s) := by
  unfold punchOutTake
  split
  · split
    · exact loadedKept_closeTake _ _ _ _ s
    · exact .refl s
  · exact .refl s

/-! ### Boundaries (R58, R103) -/

theorem loadedKept_markAction (slot pos : Nat) (k : MarkKind) (s : State) : LoadedKept s (markAction slot pos k s) := by
  have hretire : LoadedKept s (retire slot s) :=
    ((loadedKept_punchOutTake slot s).trans (loadedKept_releaseClaim _ _ _)).trans (.of_tables (tablesKept_removeEntry _ _))
  cases k with
  | windowOpen | streamerStart | cueOut => exact .refl s
  | beep3 | beep2 | beep1 => exact .of_takes (takesKept_beepMark _ _ s)
  | punchIn => exact loadedKept_punchInTake _ s
  | cueIn => exact .of_cues rfl
  | punchOut => exact hretire

theorem loadedKept_takeMarks (o : Nat) (d : Int) (s : State) : LoadedKept s (takeMarks o d s) := by
  have hmark (j slot : Nat) (k : MarkKind) (u : State) : LoadedKept u (takeMark o j slot k u) := by
    unfold takeMark
    split
    · split
      · split
        · exact (LoadedKept.of_tables (.entries _ u)).trans (loadedKept_markAction _ _ _ _)
        · exact .refl u
      · exact .refl u
    · exact .refl u
  have hat (j : Nat) (slots : List Nat) (u : State) : LoadedKept u (takeMarksAt o j slots u) :=
    .foldl (fun t slot => .foldl (fun v k => hmark j slot k v) allMarks t) slots u
  unfold takeMarks
  split
  · exact (hat _ _ s).trans (hat _ _ _)
  · exact hat _ _ s

theorem loadedKept_lookaheadBoundary (r : Report) (s : State) : LoadedKept s (lookaheadBoundary r s) := by
  have hmade (u : State) : LoadedKept u (setPhases (recompute u)) :=
    (LoadedKept.of_tables (tablesKept_recompute u)).trans (.of_tables (.entries _ _))
  unfold lookaheadBoundary
  split
  · split
    · exact .of_tables (tablesKept_rebuild s)
    · split
      · exact (loadedKept_takeMarks _ _ s).trans (hmade _)
      · exact hmade s
  · exact .refl s

theorem loadedKept_transportAbort (r : Report) (s : State) : LoadedKept s (transportAbort r s) := by
  unfold transportAbort
  split
  · exact loadedKept_abortTakes _ s
  · exact .refl s

theorem loadedKept_roleBoundary (r : Report) (s : State) : LoadedKept s (roleBoundary r s) := by
  have hoff : LoadedKept s (markOffSpeed s) := by
    unfold markOffSpeed
    split <;> exact .of_cues rfl
  unfold roleBoundary boothBoundary
  split
  · exact ((hoff.trans (loadedKept_transportAbort _ _)).trans (loadedKept_lookaheadBoundary _ _)).trans
      (.of_takes (takesKept_ageBeeps _ _))
  · split
    · exact .of_recorderOnly (recorderOnly_reservationBoundary r s)
    · exact .refl s

/-- What comes before the blocks act on a boundary: the reference unit, the outputs of the new frame, the BEACON. -/
theorem takesKept_openBoundary (accepted : Bool) (s : State) :
    TakesKept s (reportBeacon (boundaryReport accepted s)
      { refBoundary accepted s with out := newFrameOutputs (refBoundary accepted s).out }) := by
  have href : TakesKept s (refBoundary accepted s) :=
    ((TakesKept.ref _ s).trans (.of_queueOnly (queueOnly_setFlagIf _ _ _))).trans
      (.of_queueOnly (queueOnly_setFlagIf _ _ _))
  exact (href.trans (takesKept_out _ _)).trans (.of_queueOnly (queueOnly_reportBeacon _ _))

theorem loadedKept_frameBoundary (accepted : Bool) (s : State) : LoadedKept s (frameBoundary accepted s) :=
  ((LoadedKept.of_takes (takesKept_openBoundary accepted s)).trans (loadedKept_roleBoundary _ _)).trans
    (.of_takes (takesKept_settleBoundary _))

theorem takesKept_raiseLine (s : State) : TakesKept s (raiseLine s) :=
  (TakesKept.ref _ s).trans (.of_queueOnly (queueOnly_setFlagIf _ _ _))

theorem takesKept_refusedPulse (s : State) : TakesKept s (refusedPulse s) := by
  unfold refusedPulse
  split
  · exact .ref _ s
  · exact takesKept_setFlag _ s

theorem takesKept_fixKeyed (s : State) : TakesKept s s.fixKeyed := takesKept_out _ s

theorem loadedKept_countLine (s : State) : LoadedKept s (countLine s) := by
  have hraised := LoadedKept.of_takes (takesKept_raiseLine s)
  unfold countLine
  split
  · exact (hraised.trans (loadedKept_frameBoundary _ _)).trans (.of_takes (takesKept_fixKeyed _))
  · exact hraised.trans (.of_takes (takesKept_fixKeyed _))

theorem loadedKept_takeFramePulse (withLine : Bool) (s : State) : LoadedKept s (takeFramePulse withLine s) := by
  unfold takeFramePulse
  split
  · exact loadedKept_frameBoundary _ s
  · split
    · exact (LoadedKept.of_takes (takesKept_refusedPulse s)).trans (loadedKept_countLine _)
    · exact .of_takes (takesKept_refusedPulse s)

theorem takesKept_openUnlock (s : State) :
    TakesKept s (reportBeacon (unlockReport s) (({ s with ref := enterUnlocked s.ref }).setFlag .refUnlock)) :=
  ((TakesKept.ref _ s).trans (takesKept_setFlag _ _)).trans (.of_queueOnly (queueOnly_reportBeacon _ _))

theorem loadedKept_unlockByTime (s : State) : LoadedKept s (unlockByTime s) := by
  have hrole (r : Report) (u : State) : LoadedKept u (roleUnlock r u) := by
    unfold roleUnlock
    split
    · exact loadedKept_transportAbort r u
    · split
      · exact .of_recorderOnly ((recorderOnly_protect r u).trans (recorderOnly_evaluateTracks _))
      · exact .refl u
  exact ((LoadedKept.of_takes (takesKept_openUnlock s)).trans (hrole _ _)).trans (.of_takes (takesKept_settle _))

/-! ### ABORT, SELECT off, the ENGINE reset and MUTED (R66 to R70) -/

theorem loadedKept_takeAbort (room : AbortRoom) (s : State) : LoadedKept s (takeAbort room s) := by
  have hlook (u : State) : LoadedKept u (abortLookahead u) :=
    (((loadedKept_abortTakes _ u).trans (.of_tables (.foldl (fun t slot => tablesKept_standDown slot t) _ _))).trans
      (.of_takes (.of_queueOnly (queueOnly_orderUrgent _ _ _)))).trans (.of_tables (tablesKept_recompute _))
  have hbooth : LoadedKept s (inBooth (abortBooth room) s) := by
    unfold inBooth abortBooth
    split_ifs
    · exact (hlook s).trans (.of_takes (takesKept_settle _))
    · exact .refl s
    · exact .refl s
  refine hbooth.trans ?_
  unfold takeAbort inRecorder
  split
  · exact .of_recorderOnly (recorderOnly_abortReservations room _)
  · exact .refl _

theorem loadedKept_deselectEntries (range : Nat × Nat) (s : State) : LoadedKept s (deselectEntries range s) :=
  .foldl (fun t slot => ((loadedKept_abortTake _ slot t).trans (loadedKept_releaseClaim _ _ _)).trans
    (.of_tables (tablesKept_removeEntry _ _))) _ s

theorem loadedKept_emptyForEngine (s : State) : LoadedKept s (emptyForEngine s) :=
  (loadedKept_abortTakes _ s).trans
    (.foldl (fun t slot => (loadedKept_releaseClaim _ slot t).trans (.of_tables (tablesKept_removeEntry _ _))) _ _)

theorem loadedKept_resetEngine (s : State) : LoadedKept s (resetEngine s) := by
  have hemptied : LoadedKept s (engineEmptied s) :=
    ((loadedKept_emptyForEngine s).trans (.of_recorderOnly (recorderOnly_engineTracks _))).trans
      (.of_takes (takesKept_out _ _))
  exact (hemptied.trans (.of_tables (tablesKept_recompute _))).trans (.of_takes (takesKept_settle _))

theorem loadedKept_emptyForMuted (s : State) : LoadedKept s (emptyForMuted s) :=
  (loadedKept_abortTakes .muted s).trans (.of_tables (.entries _ _))

theorem loadedKept_enterMuted (s : State) : LoadedKept s (enterMuted s) :=
  (LoadedKept.of_takes (.station _ s)).trans ⟨(loadedKept_emptyForMuted _).cues⟩

theorem loadedKept_markTake (m : MarkMsg) (s : State) : LoadedKept s (markTake m s).1 := by
  unfold markTake
  split
  · exact .refl s
  · split
    · exact .refl s
    · next r _ _ =>
      rw [updateCue_eq]
      exact loadedKept_modify (f := circleCue m r) (fun c => by rw [circleCue_eq]; rfl) rfl

end Sys2Proof.Machine
end

/-! ## The rows by what they do to the cue table and the takes, and the stored cues in range (R25, R31 to R34) -/

section
namespace Sys2Proof.Machine

open Sys2Proof.Safety

/-! ### What every header and every frame keeps -/

/-- A property that the rest of a step does not reach: kept where the table, the takes and the entries but for their
claims are kept, and by the entry to MUTED. -/
structure TablesLaw (P : State → Prop) : Prop where
  kept : ∀ {s t}, TakesKept s t → P s → P t
  muted : ∀ {s}, P s → P (enterMuted s)

namespace TablesLaw

variable {P Q : State → Prop}

/-- The source of a header is heard, or clashes (R174, R176). -/
theorem handSource (law : TablesLaw P) (own : Bool) (source : Addr) {s : State} (h : P s) :
    P (handSource own source s) := by
  rcases handSource_cases own source s with ⟨-, -, e⟩ | ⟨-, e⟩ <;> rw [e]
  · exact h
  · rcases takeSource_cases source s with ⟨-, e⟩ | ⟨-, -, e⟩ | ⟨-, -, e⟩ <;> rw [e]
    · exact law.kept (takesKept_updatePeer _ _ s) h
    · exact law.kept (takesKept_setFlag _ s) h
    · exact law.muted (law.kept (takesKept_setFlag _ s) h)

theorem receiveHeader (law : TablesLaw P) (header : BitVec 24) (check : Byte) {s : State} (h : P s) :
    P (receiveHeader header check s) := by
  have hfixed (fixed : Bool) : TakesKept s (countFixed fixed s) := by
    cases fixed <;> exact ⟨⟨rfl, rfl⟩, rfl, rfl⟩
  unfold Machine.receiveHeader
  split
  · exact law.handSource _ _ (law.kept ((hfixed _).trans (takesKept_withReceiver _ _)) h)
  · exact law.kept ((hfixed _).trans ⟨⟨rfl, rfl⟩, rfl, rfl⟩) h

theorem judgedFrame (law : TablesLaw P) (header : BitVec 24) {s : State} (h : P s) : P (judgedFrame header s) := by
  unfold Machine.judgedFrame beginFrame
  split
  · exact law.kept (takesKept_withReceiver _ s) h
  · exact law.kept (takesKept_withReceiver _ _) (law.handSource _ _ h)

/-- A good frame is judged, and its owner acts where it is handed on (R149 to R152). -/
theorem takeFrame (law : TablesLaw P) (weak : ∀ u, P u → Q u) {act : State → State} (hact : ∀ u, P u → Q (act u))
    (h : FrameHead) (m : Message) {s : State} (hs : P s) : Q (takeFrame h m act s) := by
  unfold Machine.takeFrame handOn
  split
  · exact weak _ (law.kept (takesKept_withReceiver _ s) hs)
  · split
    · exact hact _ (law.judgedFrame _ hs)
    · exact weak _ (law.judgedFrame _ hs)

theorem takeCutShort (law : TablesLaw P) (bits : List Bool) {s : State} (h : P s) : P (takeCutShort bits s) := by
  have hafter (header : BitVec 24) (u : State) : TakesKept u (cutAfterHeader header bits u) := by
    unfold cutAfterHeader
    split <;> exact ⟨⟨rfl, rfl⟩, rfl, rfl⟩
  have hbefore : P (cutBeforeRow bits s) := by
    unfold cutBeforeRow
    split
    · exact law.kept (hafter _ _) (law.receiveHeader _ _ h)
    · exact law.receiveHeader _ _ h
  unfold Machine.takeCutShort cutLate
  split
  · exact h
  · split
    · exact law.kept (s := s) ⟨⟨rfl, rfl⟩, rfl, rfl⟩ h
    · split
      · exact law.kept (hafter _ s) h
      · exact h
      · exact h
      · exact hbefore
      · exact hbefore

theorem takeBadFrame (law : TablesLaw P) (header : BitVec 24) (payload : List Byte) (crc : Word16) {s : State}
    (h : P s) : P (takeBadFrame header payload crc s) := by
  unfold Machine.takeBadFrame
  split
  · exact law.kept (s := Machine.judgedFrame header s) ⟨⟨rfl, rfl⟩, rfl, rfl⟩ (law.judgedFrame header h)
  · exact law.kept (takesKept_setFlag _ _) (law.judgedFrame header h)
  · exact h

end TablesLaw

/-! ### Every row, by what it does to the table and the takes -/

theorem takesKept_inRecorder {act : State → State} (hact : ∀ u, RecorderOnly u (act u)) (s : State) :
    TakesKept s (inRecorder act s) := by
  unfold inRecorder
  split
  · exact .of_recorderOnly (hact s)
  · exact .refl s

theorem takesKept_inBooth {act : State → State} (hact : ∀ u, TakesKept u (act u)) (s : State) :
    TakesKept s (inBooth act s) := by
  unfold inBooth
  split
  · exact hact s
  · exact .refl s

theorem takesKept_ifAddressed {act : State → State} (hact : ∀ u, TakesKept u (act u)) (h : FrameHead) (s : State) :
    TakesKept s (ifAddressed h act s) := by
  unfold ifAddressed
  split
  · exact .refl s
  · exact hact s

theorem takesKept_takeGate (source : Addr) (m : GateMsg) (s : State) : TakesKept s (takeGate source m s) :=
  ((takesKept_out _ s).trans (takesKept_gateEvidence m _)).trans (takesKept_settle _)

theorem takesKept_placeReply (source : Addr) (m : ReplyMsg) (s : State) : TakesKept s (placeReply source m s) := by
  unfold placeReply
  split <;> exact ⟨⟨rfl, rfl⟩, rfl, rfl⟩

/-- A step from P to Q, for each row that reaches the cue table or the take unit. -/
structure RowLaw (P Q : State → Prop) : Prop extends TablesLaw P where
  weak : ∀ {s}, P s → Q s
  keptAfter : ∀ {s t}, TakesKept s t → Q s → Q t
  fresh : ∀ k s, Q (freshState k s)
  engine : ∀ {s}, P s → Q (resetEngine s)
  line : ∀ {s}, P s → Q (countLine s)
  pulse : ∀ {s} withLine, P s → Q (takeFramePulse withLine s)
  loss : ∀ {s}, P s → Q (unlockByTime s)
  abort : ∀ {s} room, P s → Q (takeAbort room s)
  load : ∀ {s} source m, P s → Q (takeLoad source m s)
  clear : ∀ {s} source m, P s → Q (takeClear source m s)
  selectOn : ∀ {s} source m, P s → Q (takeSelectOn source m s)
  selectOff : ∀ {s} source m, P s → Q (takeSelectOff source m s)
  mark : ∀ {s} source m, P s → Q (takeMarkMessage source m s)
  note : ∀ {s} source m, P s → Q (takeDeskNote source m s)

namespace RowLaw

variable {P Q : State → Prop}

/-- A frame whose owner reaches neither the table nor the takes. -/
theorem otherFrame (law : RowLaw P Q) {act : State → State} (hact : ∀ u, TakesKept u (act u)) (f : FrameHead)
    (m : Message) {s : State} (h : P s) : Q (Machine.takeFrame f m act s) :=
  law.takeFrame (fun _ => law.weak) (fun u hu => law.keptAfter (hact u) (law.weak hu)) f m h

/-- A message for a booth's tables: the booth's action, or the WRONG_ROLE answer (R27, R28). -/
theorem tableFrame (law : RowLaw P Q) {act : State → State} (hact : ∀ {u}, P u → Q (act u)) (f : FrameHead)
    (m : Message) (kind : AnsweredKind) (slot : Byte) {s : State} (h : P s) :
    Q (Machine.takeFrame f m (ifAddressed f (forTables kind f slot act)) s) := by
  refine law.takeFrame (fun _ => law.weak) (fun u hu => ?_) f m h
  unfold ifAddressed forTables
  split_ifs
  · exact law.weak hu
  · exact hact hu
  · exact law.weak (law.kept (takesKept_give _ _ u) hu)

/-- A message under attempt has been sent: an ABORT of the panel acts at its own station (R153). -/
theorem sentMessage (law : RowLaw P Q) (m : TxMsg) {s : State} (h : P s) : Q (Machine.sentMessage m s) := by
  have hdropped : P (dropAttempted s) := law.kept (s := s) ⟨⟨rfl, rfl⟩, rfl, rfl⟩ h
  have hown (o : Origin) (msg : Message) : Q (actOwn o msg (dropAttempted s)) := by
    unfold actOwn
    split
    · exact law.abort _ hdropped
    · exact law.weak hdropped
  have hbeacon : Q (beaconSent m s) := by
    unfold beaconSent
    split <;> exact law.keptAfter (s := s) ⟨⟨rfl, rfl⟩, rfl, rfl⟩ (law.weak h)
  unfold Machine.sentMessage
  split
  · exact hbeacon
  · exact hown _ _

/-- Every row is a step from P to Q. -/
theorem exec (law : RowLaw P Q) {c : Instr} {s t : State} (h : P s) (he : Machine.exec c s = .next t) : Q t := by
  by_cases hc : reachesTables c = false
  · exact law.keptAfter (exec_takesKept hc he) (law.weak h)
  have hanswer {u : State} (st : Status) (body : List Byte) (hu : Q u) : Q (u.answerWith st body) :=
    law.keptAfter (s := u) ⟨⟨rfl, rfl⟩, rfl, rfl⟩ hu
  cases c
  case status | read | popInbox | send | ackFlags | setMask | releaseHold | sweep | badRequest | transactionAbandoned
    | positionBit | tick | answerTimerExpiry | joinTimerExpiry | beaconTimerExpiry | peerLoss | attemptStart | collision
    | transactionEnd => exact absurd rfl hc
  all_goals obtain rfl := Host.Outcome.next.inj he
  case hardwareReset => exact law.fresh _ s
  case resetRestart => exact hanswer _ _ (law.fresh _ s)
  case resetClear => exact hanswer _ _ (law.fresh _ s)
  case resetEngine => exact hanswer _ _ (law.engine h)
  case linePulse => exact law.line h
  case framePulse => exact law.pulse _ h
  case lossByTime =>
    split
    · exact law.loss h
    · exact law.weak h
  case headerReceived =>
    split
    · exact law.weak (law.kept (takesKept_withReceiver _ s) h)
    · exact law.weak (law.receiveHeader _ _ h)
  case cutShortFrame =>
    exact law.keptAfter ((takesKept_withReceiver _ _).trans (takesKept_quietLine _ _))
      (law.weak (law.takeCutShort _ h))
  case beacon => exact law.otherFrame (fun u => takesKept_updatePeer _ _ u) _ _ h
  case claim => exact law.otherFrame (takesKept_inRecorder (recorderOnly_takeClaim _ _)) _ _ h
  case answer => exact law.otherFrame (takesKept_ifAddressed (takesKept_inBooth (takesKept_takeAnswer _)) _) _ _ h
  case release => exact law.otherFrame (takesKept_inRecorder (recorderOnly_takeRelease _ _)) _ _ h
  case gate => exact law.otherFrame (takesKept_inBooth (takesKept_takeGate _ _)) _ _ h
  case abort => exact law.takeFrame (fun _ => law.weak) (fun _ => law.abort _) _ _ h
  case load => exact law.tableFrame (law.load _ _) _ _ _ _ h
  case clear => exact law.tableFrame (law.clear _ _) _ _ _ _ h
  case selectOn => exact law.tableFrame (law.selectOn _ _) _ _ _ _ h
  case selectOff => exact law.tableFrame (law.selectOff _ _) _ _ _ _ h
  case digest =>
    exact law.tableFrame (fun hu => law.keptAfter (takesKept_give _ _ _) (law.weak hu)) _ _ _ _ h
  case mark => exact law.tableFrame (law.mark _ _) _ _ _ _ h
  case reply => exact law.otherFrame (takesKept_ifAddressed (takesKept_placeReply _ _) _) _ _ h
  case takeNote =>
    refine law.takeFrame (fun _ => law.weak) (fun u hu => ?_) _ _ h
    unfold inDesk
    split
    · exact law.note _ _ hu
    · exact law.weak hu
  case frameSent =>
    split
    · exact law.keptAfter (takesKept_withReceiver _ _) (law.sentMessage _ h)
    · exact law.weak h
  case frameJudgedBad =>
    split
    · exact law.weak (law.kept (takesKept_withReceiver _ s) h)
    · exact law.weak (law.takeBadFrame _ _ _ h)

/-- A step is a row on the station with the rest of its queue. -/
theorem step (law : RowLaw P Q) {s t : State} (h : P s) (hstep : Machine.step s = .next t) : Q t := by
  unfold Machine.step at hstep
  split at hstep
  · obtain rfl := Host.Outcome.next.inj hstep
    exact law.weak h
  · next c rest _ => exact law.exec (s := { s with pending := rest }) (law.kept (s := s) ⟨⟨rfl, rfl⟩, rfl, rfl⟩ h) hstep

end RowLaw

/-! ### The table in its ranges -/

theorem cueInv_of_loadedKept {s t : State} (hs : t.straps = s.straps) (h : LoadedKept s t) (hi : CueInv s) :
    CueInv t := by
  obtain ⟨hlength, hgood⟩ := hi
  refine ⟨h.length.trans hlength, fun c hc => ?_⟩
  obtain ⟨d, hd, heq⟩ := List.mem_map.mp (h.cues ▸ List.mem_map_of_mem hc)
  have hrange := hgood d hd
  rw [hs]
  cases c <;> cases d <;> simp only [Option.map_none, Option.map_some, Option.some.injEq, reduceCtorEq] at heq
  case none.none => rfl
  case some.some c d =>
    have huntaken (x : Cue) : CueGood s.straps.profile x = CueGood s.straps.profile x.untaken := rfl
    simpa [huntaken c, ← heq, ← huntaken d] using hrange

theorem cueInv_of_takesKept {s t : State} (h : TakesKept s t) (hi : CueInv s) : CueInv t :=
  cueInv_of_loadedKept h.straps (.of_takes h) hi

/-- After its slots have been written the table is read, and no slot is written again. -/
theorem cueInv_tableChanged {s : State} (h : CueInv s) : CueInv (tableChanged s) :=
  cueInv_of_loadedKept (boothOnly_tableChanged s).straps (.of_tables (tablesKept_tableChanged s)) h

theorem cueInv_giveReply {dest : Addr} {r : ReplyMsg} {s : State} (h : CueInv s) : CueInv (giveReply dest r s) :=
  cueInv_of_takesKept (takesKept_give _ _ s) h

/-! ### LOAD, CLEAR and SELECT -/

/-- What a LOAD that is not refused stores lies in the ranges (R31 to R33). -/
theorem cueGood_cueOfLoad {m : LoadMsg} {s : State} {c e : Nat} (h : judgeLoad m s = .ok (c, e)) (old : Option Cue) :
    CueGood s.straps.profile (cueOfLoad m c e old) := by
  obtain ⟨hin, hout, hlength, htrack⟩ := judgeLoad_ok h
  have hstreamer := clampStreamer_toNat m.streamer
  have hcount := clampTo_below (hi := 3) m.beepCount (by decide)
  have hdur := clampTo_toNat (lo := 1) (hi := 4) m.beepDur (by decide) (by decide)
  have hpre := clampTo_below (hi := 60) m.pre (by decide)
  have hpost := clampTo_below (hi := 60) m.post (by decide)
  have htext := clampTo_below (hi := 14) m.textLen (by decide)
  refine ⟨?_, ?_, ?_, ?_, ?_, ?_, ?_, hin, hout, hlength⟩ <;> simp only [cueOfLoad]
  · split at hstreamer <;> omega
  · omega
  · omega
  · omega
  · omega
  · rw [storedText, List.length_take]
    omega
  · rcases htrack with hle | heq
    · unfold trackOfByte
      split
      · rfl
      · simpa using hle
    · simp [trackOfByte, heq]

theorem cueInv_takeLoad (source : Addr) (m : LoadMsg) {s : State} (h : CueInv s) : CueInv (takeLoad source m s) := by
  cases hj : judgeLoad m s with
  | error r =>
    rw [takeLoad_of_error hj]
    exact cueInv_giveReply h
  | ok counts =>
    obtain ⟨c, e⟩ := counts
    rw [takeLoad_of_ok hj]
    refine cueInv_tableChanged (cueInv_giveReply ⟨by simpa using h.1, fun x hx => ?_⟩)
    rcases List.mem_or_eq_of_mem_set hx with hold | rfl
    · exact h.2 x hold
    · exact decide_eq_true (cueGood_cueOfLoad hj _)

/-- The slots of a range are changed, each by itself. -/
theorem mapRange_getElem? (range : Nat × Nat) (f : Option Cue → Option Cue) (n i : Nat) (cs : List (Option Cue)) :
    (mapRange range f n cs)[i]? = cs[i]?.map (fun c => if inRange range (n + i) then f c else c) := by
  induction cs generalizing n i with
  | nil => simp [mapRange]
  | cons c cs ih =>
    cases i with
    | zero => simp [mapRange]
    | succ i => simp [mapRange, ih, Nat.add_assoc, Nat.add_comm 1 i]

theorem length_mapRange (range : Nat × Nat) (f : Option Cue → Option Cue) (n : Nat) (cs : List (Option Cue)) :
    (mapRange range f n cs).length = cs.length := by
  induction cs generalizing n with
  | nil => rfl
  | cons c cs ih => simp [mapRange, ih]

/-- The slots of a range are changed to cues in range. -/
theorem cueInv_changeRange {range : Nat × Nat} {f : Option Cue → Option Cue} {s : State}
    (hf : ∀ c, (c.all fun x => decide (CueGood s.straps.profile x)) = true →
      ((f c).all fun x => decide (CueGood s.straps.profile x)) = true) (h : CueInv s) :
    CueInv (s.changeRange range f) := by
  refine ⟨(length_mapRange _ _ _ _).trans h.1, fun x hx => ?_⟩
  obtain ⟨i, hi⟩ := List.mem_iff_getElem?.mp hx
  simp only [State.changeRange, mapRange_getElem?, Option.map_eq_some_iff] at hi
  obtain ⟨c, hc, rfl⟩ := hi
  have hgood := h.2 c (List.mem_of_getElem? hc)
  split
  · exact hf c hgood
  · exact hgood

theorem cueInv_select (range : Nat × Nat) (on : Bool) {s : State} (h : CueInv s) :
    CueInv (s.changeRange range (selectSlot on)) :=
  cueInv_changeRange (fun c hc => by cases c <;> exact hc) h

theorem cueInv_takeClear (source : Addr) (m : RangeMsg) {s : State} (h : CueInv s) : CueInv (takeClear source m s) := by
  unfold takeClear
  split
  · split
    · exact cueInv_giveReply h
    · exact cueInv_tableChanged (cueInv_giveReply (cueInv_changeRange (fun _ _ => rfl) h))
  · exact cueInv_giveReply h

theorem cueInv_takeSelectOn (source : Addr) (m : RangeMsg) {s : State} (h : CueInv s) :
    CueInv (takeSelectOn source m s) := by
  unfold takeSelectOn
  split
  · exact cueInv_tableChanged (cueInv_giveReply (cueInv_select _ _ h))
  · exact cueInv_giveReply h

theorem cueInv_takeSelectOff (source : Addr) (m : RangeMsg) {s : State} (h : CueInv s) :
    CueInv (takeSelectOff source m s) := by
  unfold takeSelectOff
  split
  · exact cueInv_tableChanged (cueInv_giveReply (cueInv_of_loadedKept (referenceKept_deselectEntries _ _).straps
      (loadedKept_deselectEntries _ _) (cueInv_select _ _ h)))
  · exact cueInv_giveReply h

theorem cueInv_takeMarkMessage (source : Addr) (m : MarkMsg) {s : State} (h : CueInv s) :
    CueInv (takeMarkMessage source m s) :=
  cueInv_of_loadedKept (referenceKept_takeMarkMessage source m s).straps
    ((loadedKept_markTake m s).trans (.of_takes (takesKept_give _ _ _))) h

theorem straps_takeFramePulse (withLine : Bool) (s : State) : (takeFramePulse withLine s).straps = s.straps := by
  unfold takeFramePulse
  split
  · exact (reportOnly_frameBoundary true s).straps
  · split
    · exact (reportOnly_countLine _).straps.trans (takesKept_refusedPulse s).straps
    · exact (takesKept_refusedPulse s).straps

/-- Every row keeps the stored cues in their ranges. -/
theorem rowLaw_cueInv : RowLaw CueInv CueInv where
  kept := cueInv_of_takesKept
  muted {s} := cueInv_of_loadedKept (referenceKept_enterMuted s).straps (loadedKept_enterMuted s)
  weak h := h
  keptAfter := cueInv_of_takesKept
  fresh := cueInv_freshState
  engine {s} := cueInv_of_loadedKept (referenceKept_resetEngine s).straps (loadedKept_resetEngine s)
  line {s} := cueInv_of_loadedKept (reportOnly_countLine s).straps (loadedKept_countLine s)
  pulse {s} withLine := cueInv_of_loadedKept (straps_takeFramePulse withLine s) (loadedKept_takeFramePulse withLine s)
  loss {s} := cueInv_of_loadedKept (reportOnly_unlockByTime s).straps (loadedKept_unlockByTime s)
  abort {s} room := cueInv_of_loadedKept (referenceKept_takeAbort room s).straps (loadedKept_takeAbort room s)
  load source m := cueInv_takeLoad source m
  clear source m := cueInv_takeClear source m
  selectOn source m := cueInv_takeSelectOn source m
  selectOff source m := cueInv_takeSelectOff source m
  mark source m := cueInv_takeMarkMessage source m
  note {s} source m := cueInv_of_loadedKept (referenceKept_takeDeskNote source m s).straps (.of_cues rfl)

/-- Settles O5, by the rows: LOAD stores what its judgement has clamped, and no other row writes what the ranges bound. -/
theorem stepKeepsStoredCuesInRange : Obligations.StepKeepsStoredCuesInRange :=
  fun _ _ => rowLaw_cueInv.step

end Sys2Proof.Machine
end

/-! ## The take unit by itself (R93 to R97, R100 to R106): log, journal and displaced records through every change -/

section
namespace Sys2Proof.Machine

open Sys2Proof.Safety

/-- The take unit's own bounds: the part of `TakeInv` that reads neither the table nor the entries. -/
structure UnitSound (u : TakeUnit) : Prop where
  deskLog : u.deskLog.length ≤ 32
  takes : ∀ r ∈ u.log, r.take ≤ 99
  counts : ∀ j ∈ u.journal, j.takeCount ≤ 99
  displaced : ∀ j ∈ u.journal, ∀ r, j.displaced = some r → r.take ≤ 99 ∧ r.result ≠ .inFlight
  length : u.log.length ≤ 32
  aged : u.log.Pairwise (fun a b => ageOf u.serial b.serial < ageOf u.serial a.serial)
  serials : (u.log.map LogRecord.serial ++ displacedSerials u.journal).Nodup
  journalSerials : (u.journal.map JournalRecord.serial).Nodup
  logged : ∀ j ∈ u.journal, ∃ r ∈ u.log, r.serial = j.serial
  inFlight : ∀ r ∈ u.log, r.result = .inFlight ↔ ∃ j ∈ u.journal, j.serial = r.serial

namespace UnitSound

theorem logSerials {u : TakeUnit} (h : UnitSound u) : (u.log.map LogRecord.serial).Nodup :=
  h.serials.sublist (List.sublist_append_left _ _)

/-- A record is the only one of its serial. -/
theorem eq_of_serial {u : TakeUnit} (h : UnitSound u) {a b : LogRecord} (ha : a ∈ u.log) (hb : b ∈ u.log)
    (e : a.serial = b.serial) : a = b := List.inj_on_of_nodup_map h.logSerials ha hb e

theorem journal_eq_of_serial {u : TakeUnit} (h : UnitSound u) {i j : JournalRecord} (hi : i ∈ u.journal)
    (hj : j ∈ u.journal) (e : i.serial = j.serial) : i = j := List.inj_on_of_nodup_map h.journalSerials hi hj e

end UnitSound

/-! ### Lists with a key -/

/-- Where a key occurs once, its element and the elements of other keys are the list. -/
theorem perm_cons_filter_key {α β : Type} [DecidableEq β] (f : α → β) {l : List α} (h : (l.map f).Nodup) {a : α}
    (ha : a ∈ l) : l.Perm (a :: l.filter (fun x => f x != f a)) := by
  induction l with
  | nil => cases ha
  | cons x xs ih =>
    obtain ⟨hx, hxs⟩ := List.nodup_cons.mp h
    rcases List.mem_cons.mp ha with rfl | ha
    · have hrest : xs.filter (fun y => f y != f a) = xs :=
        List.filter_eq_self.mpr fun y hy => by
          simpa using fun e : f y = f a => hx (e ▸ List.mem_map_of_mem hy)
      simp [hrest]
    · have hne : f x ≠ f a := fun e => hx (e ▸ List.mem_map_of_mem ha)
      rw [List.filter_cons_of_pos (by simpa using hne)]
      exact ((ih hxs ha).cons x).trans (.swap a x _)

theorem mem_displacedSerials {n : Word16} {journal : List JournalRecord} :
    n ∈ displacedSerials journal ↔ ∃ j ∈ journal, ∃ r, j.displaced = some r ∧ r.serial = n := by
  simp [displacedSerials, List.mem_filterMap]

/-! ### A take that ends (R101, R104) -/

theorem unitSound_closed {u : TakeUnit} (h : UnitSound u) {result : TakeResult} (hr : result ≠ .inFlight) (stop : Nat)
    (serial : Word16) : UnitSound (u.closed result stop serial) := by
  have hlog : (u.closed result stop serial).log.map LogRecord.serial = u.log.map LogRecord.serial := by
    simp [TakeUnit.closed]
  have hjournal : (u.closed result stop serial).journal.Sublist u.journal := List.filter_sublist
  refine
    { deskLog := h.deskLog
      takes := fun r hm => ?_
      counts := fun j hj => h.counts j (hjournal.subset hj)
      displaced := fun j hj => h.displaced j (hjournal.subset hj)
      length := by simpa [TakeUnit.closed] using h.length
      aged := ?_
      serials := ?_
      journalSerials := h.journalSerials.sublist (hjournal.map _)
      logged := fun j hj => ?_
      inFlight := fun r hm => ?_ }
  · obtain ⟨r, hr, rfl⟩ := List.mem_map.mp hm
    rw [LogRecord.closed_take]
    exact h.takes r hr
  · refine List.pairwise_map.mpr (h.aged.imp fun {a b} hab => ?_)
    rw [LogRecord.closed_serial, LogRecord.closed_serial]
    exact hab
  · rw [hlog]
    exact h.serials.sublist ((List.Sublist.refl _).append (hjournal.filterMap _))
  · obtain ⟨r, hm, e⟩ := h.logged j (hjournal.subset hj)
    exact ⟨_, List.mem_map_of_mem hm, (LogRecord.closed_serial ..).trans e⟩
  · obtain ⟨r, hold, rfl⟩ := List.mem_map.mp hm
    by_cases e : r.serial = serial
    · simp [e, hr, TakeUnit.closed, LogRecord.closed]
    · rw [LogRecord.closed_of_ne e, h.inFlight r hold]
      simp only [TakeUnit.closed, List.mem_filter, bne_iff_ne]
      exact ⟨fun ⟨j, hj, ej⟩ => ⟨j, ⟨hj, ej ▸ e⟩, ej⟩, fun ⟨j, hj, ej⟩ => ⟨j, hj.1, ej⟩⟩

/-! ### A take that is undone (R105) -/

theorem insertAged_perm (n : Word16) (r : LogRecord) (log : List LogRecord) : (insertAged n r log).Perm (r :: log) := by
  induction log with
  | nil => exact .refl _
  | cons x xs ih =>
    unfold insertAged
    split
    · exact .refl _
    · exact (ih.cons x).trans (.swap r x xs)

/-- A record put back by its age leaves the log in the order of age (R97). -/
theorem insertAged_aged {n : Word16} {r : LogRecord} {log : List LogRecord}
    (h : log.Pairwise (fun a b => ageOf n b.serial < ageOf n a.serial))
    (hr : ∀ x ∈ log, ageOf n x.serial ≠ ageOf n r.serial) :
    (insertAged n r log).Pairwise (fun a b => ageOf n b.serial < ageOf n a.serial) := by
  induction log with
  | nil => simp [insertAged]
  | cons x xs ih =>
    obtain ⟨hx, hxs⟩ := List.pairwise_cons.mp h
    unfold insertAged
    split
    · next hlt =>
      refine List.pairwise_cons.mpr ⟨fun y hy => ?_, h⟩
      rcases List.mem_cons.mp hy with rfl | hy
      · exact hlt
      · exact (hx y hy).trans hlt
    · next hlt =>
      refine List.pairwise_cons.mpr ⟨fun y hy => ?_, ih hxs fun y hy => hr y (List.mem_cons_of_mem _ hy)⟩
      rcases List.mem_cons.mp ((insertAged_perm n r xs).mem_iff.mp hy) with rfl | hy
      · have := hr x List.mem_cons_self
        omega
      · exact hx y hy

theorem ageOf_inj {n a b : Word16} (h : ageOf n a = ageOf n b) : a = b := by
  unfold ageOf at h
  bv_omega

/-- The records after an unwind are the others and the displaced one. -/
theorem unwindLog_perm (n : Word16) (j : JournalRecord) (log : List LogRecord) :
    (unwindLog n j log).Perm (j.displaced.toList ++ dropRecord j.serial log) := by
  unfold unwindLog
  cases j.displaced with
  | none => exact .refl _
  | some r => exact insertAged_perm n r _

theorem unitSound_unwound {u : TakeUnit} (h : UnitSound u) {j : JournalRecord} (hj : j ∈ u.journal) :
    UnitSound (u.unwound j) := by
  have hperm := unwindLog_perm u.serial j u.log
  have hdrop : (dropRecord j.serial u.log).Sublist u.log := List.filter_sublist
  have hjournal : (u.unwound j).journal.Sublist u.journal := List.filter_sublist
  have hsplit : (displacedSerials u.journal).Perm
      ((j.displaced.map LogRecord.serial).toList ++ displacedSerials (u.unwound j).journal) := by
    have hfront := (perm_cons_filter_key JournalRecord.serial h.journalSerials hj).filterMap
      (fun j => j.displaced.map LogRecord.serial)
    unfold displacedSerials TakeUnit.unwound
    cases hd : j.displaced <;> simpa [hd] using hfront
  have hmem {r : LogRecord} : r ∈ (u.unwound j).log ↔ j.displaced = some r ∨ r ∈ u.log ∧ r.serial ≠ j.serial := by
    simp [TakeUnit.unwound, hperm.mem_iff, dropRecord]
  have hback {r : LogRecord} (hr : j.displaced = some r) : ∀ x ∈ u.log, x.serial ≠ r.serial := fun x hx e =>
    (List.nodup_append.mp h.serials).2.2 _ (List.mem_map_of_mem hx) _ (mem_displacedSerials.mpr ⟨j, hj, r, hr, rfl⟩) e
  refine
    { deskLog := h.deskLog
      takes := fun r hm => ?_
      counts := fun i hi => h.counts i (hjournal.subset hi)
      displaced := fun i hi => h.displaced i (hjournal.subset hi)
      length := ?_
      aged := ?_
      serials := ?_
      journalSerials := h.journalSerials.sublist (hjournal.map _)
      logged := fun i hi => ?_
      inFlight := fun r hm => ?_ }
  · rcases hmem.mp hm with hd | ⟨hm, -⟩
    · exact (h.displaced j hj r hd).1
    · exact h.takes r hm
  · obtain ⟨r, hm, e⟩ := h.logged j hj
    have hlt : (dropRecord j.serial u.log).length < u.log.length :=
      List.length_filter_lt_length_iff_exists.mpr ⟨r, hm, by simp [e]⟩
    have hlen := h.length
    have hone : j.displaced.toList.length ≤ 1 := by cases j.displaced <;> simp
    show (unwindLog u.serial j u.log).length ≤ 32
    rw [hperm.length_eq, List.length_append]
    omega
  · show (unwindLog u.serial j u.log).Pairwise _
    unfold unwindLog
    split
    · next r hd => exact insertAged_aged (h.aged.sublist hdrop) fun x hx e => hback hd x (hdrop.subset hx) (ageOf_inj e)
    · exact h.aged.sublist hdrop
  · have hall := ((List.Perm.refl (u.log.map LogRecord.serial)).append hsplit).nodup_iff.mp h.serials
    have hgoal : ((u.unwound j).log.map LogRecord.serial ++ displacedSerials (u.unwound j).journal).Perm
        ((dropRecord j.serial u.log).map LogRecord.serial ++
          ((j.displaced.map LogRecord.serial).toList ++ displacedSerials (u.unwound j).journal)) := by
      refine ((hperm.map LogRecord.serial).append_right _).trans ?_
      rw [List.map_append, ← List.append_assoc]
      exact (List.perm_append_comm.append_right _).trans (by cases j.displaced <;> simp)
    exact hgoal.nodup_iff.mpr (hall.sublist ((hdrop.map _).append (.refl _)))
  · obtain ⟨hi, hne⟩ := List.mem_filter.mp hi
    obtain ⟨r, hm, e⟩ := h.logged i hi
    exact ⟨r, hmem.mpr (.inr ⟨hm, by simpa [e] using hne⟩), e⟩
  · simp only [TakeUnit.unwound, List.mem_filter, bne_iff_ne]
    rcases hmem.mp hm with hd | ⟨hm, hne⟩
    · refine ⟨fun e => absurd e (h.displaced j hj r hd).2, fun ⟨i, ⟨hi, _⟩, e⟩ => ?_⟩
      obtain ⟨x, hx, ex⟩ := h.logged i hi
      exact absurd (ex.trans e) (hback hd x hx)
    · rw [h.inFlight r hm]
      exact ⟨fun ⟨i, hi, e⟩ => ⟨i, ⟨hi, e ▸ hne⟩, e⟩, fun ⟨i, hi, e⟩ => ⟨i, hi.1, e⟩⟩

/-! ### A take that starts (R95 to R97) -/

/-- The next serial is no nearer to any other than the last was by one: only the next serial itself wraps (R97). -/
theorem ageOf_succ {n x : Word16} (h : x ≠ n + 1#16) : ageOf (n + 1#16) x = ageOf n x + 1 := by
  unfold ageOf
  bv_omega

/-- What room for the record of a serial leaves of a log (R96). -/
structure RoomMade (serial : Word16) (log rest : List LogRecord) (displaced : Option LogRecord) : Prop where
  sub : rest.Sublist log
  fresh : ∀ r ∈ rest, r.serial ≠ serial
  length : rest.length < 32
  kept : ∀ r ∈ log, r.result = .inFlight → r ∈ rest
  gone : ∀ r, displaced = some r → r ∈ log ∧ r.result ≠ .inFlight ∧ r.serial ≠ serial ∧ ∀ x ∈ rest, x.serial ≠ r.serial

/-- Room is made for a serial that no take in flight bears, with fewer than 32 takes in flight (R96). -/
theorem roomMade_makeRoom {u : TakeUnit} (h : UnitSound u) {serial : Word16}
    (hfresh : ∀ j ∈ u.journal, j.serial ≠ serial) (hfew : u.journal.length < 32) :
    RoomMade serial u.log (makeRoom serial u.log).1 (makeRoom serial u.log).2 := by
  have hflight {r : LogRecord} (hm : r ∈ u.log) (hr : r.result = .inFlight) : r.serial ≠ serial := fun e => by
    obtain ⟨j, hj, ej⟩ := (h.inFlight r hm).mp hr
    exact hfresh j hj (ej.trans e)
  have hlen := h.length
  unfold makeRoom
  split
  · next hissued =>
    obtain ⟨x, hx, ex⟩ := List.any_eq_true.mp hissued
    have hlt : (dropRecord serial u.log).length < u.log.length :=
      List.length_filter_lt_length_iff_exists.mpr ⟨x, hx, by simpa using ex⟩
    exact ⟨List.filter_sublist, fun r hr => by simpa [dropRecord] using (List.mem_filter.mp hr).2,
      hlt.trans_le hlen, fun r hm hr => List.mem_filter.mpr ⟨hm, by simpa using hflight hm hr⟩, by simp⟩
  · next hnew =>
    have hnone : ∀ r ∈ u.log, r.serial ≠ serial := fun r hr e =>
      hnew (List.any_eq_true.mpr ⟨r, hr, by simpa using e⟩)
    split
    · split
      · next r hfind =>
        have hm := List.mem_of_find?_eq_some hfind
        have hr : r.result ≠ .inFlight := by simpa using List.find?_some hfind
        have hlt : (dropRecord r.serial u.log).length < u.log.length :=
          List.length_filter_lt_length_iff_exists.mpr ⟨r, hm, by simp⟩
        refine ⟨List.filter_sublist, fun x hx => hnone x (List.mem_filter.mp hx).1, hlt.trans_le hlen,
          fun x hx hxr => ?_, fun x e => ?_⟩
        · refine List.mem_filter.mpr ⟨hx, ?_⟩
          have hne : x.serial ≠ r.serial := fun e => hr (h.eq_of_serial hx hm e ▸ hxr)
          simpa using hne
        · obtain rfl := Option.some.inj e
          exact ⟨hm, hr, hnone r hm, fun x hx => by simpa [dropRecord] using (List.mem_filter.mp hx).2⟩
      · next hfull hfind =>
        have hall : ∀ r ∈ u.log, r.result = .inFlight := fun r hr => by simpa using List.find?_eq_none.mp hfind r hr
        have hsub : u.log.map LogRecord.serial ⊆ u.journal.map JournalRecord.serial := fun n hn => by
          obtain ⟨r, hr, rfl⟩ := List.mem_map.mp hn
          obtain ⟨j, hj, e⟩ := (h.inFlight r hr).mp (hall r hr)
          exact List.mem_map.mpr ⟨j, hj, e⟩
        have hle := (h.logSerials.subperm hsub).length_le
        simp only [List.length_map] at hle
        omega
    · next hroom => exact ⟨.refl _, hnone, Nat.lt_of_not_le hroom, fun r hm _ => hm, by simp⟩

/-- No displaced record bears a serial that has been issued again (R96, R97). -/
theorem displacedSerials_forget (serial : Word16) (journal : List JournalRecord) :
    displacedSerials (journal.map (JournalRecord.forget serial)) =
      (displacedSerials journal).filter (fun n => n != serial) := by
  unfold displacedSerials
  rw [List.filterMap_map, List.filter_filterMap]
  refine List.filterMap_congr fun j _ => ?_
  unfold JournalRecord.forget
  rcases hd : j.displaced with _ | r
  · simp [hd]
  · by_cases e : r.serial = serial <;> simp [hd, e, Option.filter]

@[simp] theorem JournalRecord.forget_serial (n : Word16) (j : JournalRecord) : (j.forget n).serial = j.serial := by
  unfold JournalRecord.forget
  split <;> rfl

@[simp] theorem JournalRecord.forget_slot (n : Word16) (j : JournalRecord) : (j.forget n).slot = j.slot := by
  unfold JournalRecord.forget
  split <;> rfl

theorem JournalRecord.forget_displaced {n : Word16} {j : JournalRecord} {r : LogRecord}
    (h : (j.forget n).displaced = some r) : j.displaced = some r := by
  unfold JournalRecord.forget at h
  split at h
  · cases h
  · exact h

theorem JournalRecord.forget_takeCount (n : Word16) (j : JournalRecord) : (j.forget n).takeCount = j.takeCount := by
  unfold JournalRecord.forget
  split <;> rfl

theorem unitSound_startLog {u : TakeUnit} (h : UnitSound u) (slot : Nat) {c : Cue} (hc : c.takeCount < 99) (e : Entry)
    (offSpeed : Bool) (hfresh : ∀ j ∈ u.journal, j.serial ≠ u.serial + 1#16) (hfew : u.journal.length < 32) :
    UnitSound (startLog slot c e offSpeed u) := by
  obtain ⟨hrest, hnew, hlength, hkept, hgone⟩ := roomMade_makeRoom h hfresh hfew
  have hserials := List.nodup_append.mp h.serials
  unfold startLog
  generalize (makeRoom (u.serial + 1#16) u.log).1 = rest at *
  generalize (makeRoom (u.serial + 1#16) u.log).2 = displaced at *
  refine
    { deskLog := h.deskLog
      takes := fun r hm => ?_
      counts := fun j hj => ?_
      displaced := fun j hj r hd => ?_
      length := by simpa using hlength
      aged := ?_
      serials := ?_
      journalSerials := ?_
      logged := fun j hj => ?_
      inFlight := fun r hm => ?_ }
  · rcases List.mem_append.mp hm with hm | hm
    · exact h.takes r (hrest.subset hm)
    · rw [List.mem_singleton.mp hm]
      exact hc
  · rcases List.mem_append.mp hj with hj | hj
    · obtain ⟨i, hi, rfl⟩ := List.mem_map.mp hj
      rw [JournalRecord.forget_takeCount]
      exact h.counts i hi
    · rw [List.mem_singleton.mp hj]
      exact hc.le
  · rcases List.mem_append.mp hj with hj | hj
    · obtain ⟨i, hi, rfl⟩ := List.mem_map.mp hj
      exact h.displaced i hi r (JournalRecord.forget_displaced hd)
    · rw [List.mem_singleton.mp hj] at hd
      obtain ⟨hm, hr, -⟩ := hgone r hd
      exact ⟨h.takes r hm, hr⟩
  · refine List.pairwise_append.mpr ⟨(h.aged.sublist hrest).imp_of_mem fun {a b} ha hb hab => ?_,
      List.pairwise_singleton _ _, fun a ha b hb => ?_⟩
    · rw [ageOf_succ (hnew a ha), ageOf_succ (hnew b hb)]
      omega
    · rw [List.mem_singleton.mp hb, ageOf_succ (hnew a ha)]
      simp [startRecord, ageOf]
  · have hdisplaced : displacedSerials (u.journal.map (JournalRecord.forget (u.serial + 1#16)) ++
        [{ serial := u.serial + 1#16, slot := slot, takeCount := c.takeCount, lastResult := c.lastResult
           displaced := displaced }]) =
        (displacedSerials u.journal).filter (fun n => n != u.serial + 1#16) ++
          (displaced.map LogRecord.serial).toList := by
      rw [← displacedSerials_forget]
      unfold displacedSerials
      rw [List.filterMap_append]
      cases displaced <;> rfl
    have hout : ∀ n ∈ (displaced.map LogRecord.serial).toList,
        n ∈ u.log.map LogRecord.serial ∧ n ≠ u.serial + 1#16 ∧ ∀ x ∈ rest, x.serial ≠ n := fun n hn => by
      cases displaced with
      | none => cases hn
      | some r =>
        obtain ⟨hm, -, hne, hx⟩ := hgone r rfl
        rw [List.mem_singleton.mp hn]
        exact ⟨List.mem_map_of_mem hm, hne, hx⟩
    rw [hdisplaced, List.map_append]
    refine List.nodup_append.mpr ⟨List.nodup_append.mpr ⟨hserials.1.sublist (hrest.map _), List.nodup_singleton _,
        fun n hn m hm => ?newest⟩, List.nodup_append.mpr ⟨hserials.2.1.filter _, by cases displaced <;> simp,
        fun n hn m hm => ?apart⟩, fun n hn m hm => ?both⟩
    case newest =>
      obtain ⟨r, hr, rfl⟩ := List.mem_map.mp hn
      rw [List.mem_singleton.mp hm]
      exact hnew r hr
    case apart => exact (hserials.2.2 m (hout m hm).1 n (List.mem_filter.mp hn).1).symm
    case both =>
      rcases List.mem_append.mp hn with hn | hn <;> rcases List.mem_append.mp hm with hm | hm
      · obtain ⟨r, hr, rfl⟩ := List.mem_map.mp hn
        exact hserials.2.2 _ (List.mem_map_of_mem (hrest.subset hr)) m (List.mem_filter.mp hm).1
      · obtain ⟨r, hr, rfl⟩ := List.mem_map.mp hn
        exact (hout m hm).2.2 r hr
      · rw [List.mem_singleton.mp hn]
        have hne : m ≠ u.serial + 1#16 := by simpa using (List.mem_filter.mp hm).2
        exact hne.symm
      · rw [List.mem_singleton.mp hn]
        exact (hout m hm).2.1.symm
  · simp only [List.map_append, List.map_map, Function.comp_def, JournalRecord.forget_serial]
    refine List.nodup_append.mpr ⟨h.journalSerials, List.nodup_singleton _, fun n hn m hm => ?_⟩
    obtain ⟨j, hj, rfl⟩ := List.mem_map.mp hn
    rw [List.mem_singleton.mp hm]
    exact hfresh j hj
  · rcases List.mem_append.mp hj with hj | hj
    · obtain ⟨i, hi, rfl⟩ := List.mem_map.mp hj
      obtain ⟨r, hr, er⟩ := h.logged i hi
      have hr' := hkept r hr ((h.inFlight r hr).mpr ⟨i, hi, er.symm⟩)
      exact ⟨r, List.mem_append_left _ hr', er.trans (JournalRecord.forget_serial _ i).symm⟩
    · rw [List.mem_singleton.mp hj]
      exact ⟨_, List.mem_append_right _ (List.mem_singleton_self _), rfl⟩
  · rcases List.mem_append.mp hm with hm | hm
    · rw [h.inFlight r (hrest.subset hm)]
      refine ⟨fun ⟨j, hj, er⟩ => ⟨_, List.mem_append_left _ (List.mem_map_of_mem hj),
        (JournalRecord.forget_serial _ j).trans er⟩, fun ⟨j, hj, er⟩ => ?_⟩
      rcases List.mem_append.mp hj with hj | hj
      · obtain ⟨i, hi, rfl⟩ := List.mem_map.mp hj
        exact ⟨i, hi, (JournalRecord.forget_serial _ i).symm.trans er⟩
      · rw [List.mem_singleton.mp hj] at er
        exact absurd er.symm (hnew r hm)
    · rw [List.mem_singleton.mp hm]
      exact ⟨fun _ => ⟨_, List.mem_append_right _ (List.mem_singleton_self _), rfl⟩, fun _ => rfl⟩

end Sys2Proof.Machine
end

/-! ## Takes in flight and their journal (R93, R94, R100 to R106): what starts, ends and undoes a take keeps them paired -/

section
namespace Sys2Proof.Machine

open Sys2Proof.Safety

/-! ### The takes in flight, by slot and serial -/

/-- The slot and serial of an entry whose take is RUNNING. -/
def Entry.flight (e : Entry) : Option (Nat × Option Word16) :=
  if e.take = .running then some (e.slot, e.serial) else none

/-- The takes in flight, in entry order. -/
def State.flights (s : State) : List (Nat × Option Word16) := s.entries.filterMap Entry.flight

/-- The slot and serial of a journal record. -/
def JournalRecord.flight (j : JournalRecord) : Nat × Option Word16 := (j.slot, some j.serial)

theorem Entry.flight_of_running {e : Entry} (h : e.take = .running) : e.flight = some (e.slot, e.serial) := by
  simp [Entry.flight, h]

theorem Entry.flight_of_not_running {e : Entry} (h : e.take ≠ .running) : e.flight = none := by
  simp [Entry.flight, h]

theorem Entry.slot_of_flight {e : Entry} {f : Nat × Option Word16} (h : e.flight = some f) : f.1 = e.slot := by
  unfold Entry.flight at h
  split at h
  · exact (Option.some.inj h) ▸ rfl
  · cases h

theorem flights_eq (s : State) : s.flights = s.running.map (fun e => (e.slot, e.serial)) := by
  unfold State.flights State.running
  induction s.entries with
  | nil => rfl
  | cons e es ih => by_cases h : e.take = .running <;> simp [Entry.flight, h, ih]

theorem mem_running {s : State} {e : Entry} : e ∈ s.running ↔ e ∈ s.entries ∧ e.take = .running := by
  simp [State.running]

/-- Each slot has one entry. -/
def State.slotsDistinct (s : State) : Prop := (s.entries.map Entry.slot).Nodup

theorem eq_of_slot {s : State} (h : s.slotsDistinct) {a b : Entry} (ha : a ∈ s.entries) (hb : b ∈ s.entries)
    (e : a.slot = b.slot) : a = b := List.inj_on_of_nodup_map h ha hb e

theorem entryOf_of_mem {s : State} (h : s.slotsDistinct) {e : Entry} (he : e ∈ s.entries) :
    s.entryOf e.slot = some e := by
  rcases hf : s.entryOf e.slot with _ | x
  · have hne := List.find?_eq_none.mp hf e he
    simp at hne
  · rw [eq_of_slot h (List.mem_of_find?_eq_some hf) he (slot_of_entryOf hf)]

/-- The slots of the takes in flight are distinct. -/
theorem flights_nodup {s : State} (h : s.slotsDistinct) : (s.flights.map Prod.fst).Nodup := by
  rw [flights_eq, List.map_map]
  exact h.sublist (List.filter_sublist.map _)

/-- The entries but for their claims tell the takes in flight. -/
theorem flights_of_unclaimed {s t : State} (h : t.entries.map Entry.unclaimed = s.entries.map Entry.unclaimed) :
    t.flights = s.flights := by
  have hread (l : List Entry) : l.filterMap Entry.flight = (l.map Entry.unclaimed).filterMap Entry.flight := by
    rw [List.filterMap_map]
    rfl
  rw [State.flights, hread, h, ← hread]
  rfl

theorem slots_of_unclaimed {s t : State} (h : t.entries.map Entry.unclaimed = s.entries.map Entry.unclaimed) :
    t.entries.map Entry.slot = s.entries.map Entry.slot := by
  have hread (l : List Entry) : l.map Entry.slot = (l.map Entry.unclaimed).map Entry.slot := by
    rw [List.map_map]
    rfl
  rw [hread, h, ← hread]

/-- Where the entries of a slot are changed to run no take, the takes in flight are those of the other slots. -/
theorem filterMap_flight_landed {f : Entry → Entry} {slot : Nat} (hf : ∀ e, e.slot = slot → (f e).flight = none)
    (es : List Entry) :
    (es.map (fun e => if e.slot == slot then f e else e)).filterMap Entry.flight =
      (es.filterMap Entry.flight).filter (fun x => x.1 != slot) := by
  rw [List.filterMap_map, List.filter_filterMap]
  refine List.filterMap_congr fun e _ => ?_
  by_cases he : e.slot = slot
  · rcases hx : e.flight with _ | x
    · simp [he, hf e he]
    · simp [he, hf e he, Option.filter, Entry.slot_of_flight hx]
  · rcases hx : e.flight with _ | x
    · simp [he, hx]
    · simp [he, hx, Option.filter, Entry.slot_of_flight hx]

theorem filterMap_flight_removed (slot : Nat) (es : List Entry) :
    (es.filter (fun e => e.slot != slot)).filterMap Entry.flight =
      (es.filterMap Entry.flight).filter (fun x => x.1 != slot) := by
  rw [List.filterMap_filter, List.filter_filterMap]
  refine List.filterMap_congr fun e _ => ?_
  rcases hx : e.flight with _ | x
  · simp
  · by_cases he : e.slot = slot <;> simp [he, Option.filter, Entry.slot_of_flight hx]

/-- An entry whose take starts joins the takes in flight. -/
theorem filterMap_flight_started {f : Entry → Entry} {x : Nat × Option Word16} {es : List Entry} {e : Entry}
    (h : (es.map Entry.slot).Nodup) (he : e ∈ es) (hidle : e.flight = none) (hf : (f e).flight = some x) :
    ((es.map (fun y => if y.slot == e.slot then f y else y)).filterMap Entry.flight).Perm
      (x :: es.filterMap Entry.flight) := by
  induction es with
  | nil => cases he
  | cons y ys ih =>
    obtain ⟨hy, hys⟩ := List.nodup_cons.mp h
    rcases List.mem_cons.mp he with rfl | he
    · have hrest : ys.map (fun y => if y.slot == e.slot then f y else y) = ys := by
        refine (List.map_congr_left fun z hz => if_neg ?_).trans (List.map_id ys)
        simpa using fun k : z.slot = e.slot => hy (k ▸ List.mem_map_of_mem hz)
      rw [List.map_cons, hrest, if_pos (by simp), List.filterMap_cons, List.filterMap_cons, hf, hidle]
    · have hne : y.slot ≠ e.slot := fun k => hy (k ▸ List.mem_map_of_mem he)
      rw [List.map_cons, if_neg (by simpa using hne), List.filterMap_cons, List.filterMap_cons]
      rcases y.flight with _ | z
      · exact ih hys he
      · exact ((ih hys he).cons z).trans (.swap x z _)

/-! ### The take unit with the table and the entries -/

/-- `TakeInv` with its takes in flight and its journal paired one for one. -/
structure TakeSound (s : State) : Prop where
  unit : UnitSound s.takes
  counts : ∀ c ∈ s.cues, ∀ x, c = some x → x.takeCount ≤ 99 ∧ x.circled ≤ 99
  two : s.flights.length ≤ 2
  paired : s.flights.Perm (s.takes.journal.map JournalRecord.flight)

/-- Distinct slots make the pairing one for one (R93). -/
theorem takeSound_of_takeInv {s : State} (hs : s.slotsDistinct) (h : TakeInv s) : TakeSound s := by
  obtain ⟨htwo, hdesk, hcounts, htakes, hjournal, hlength, haged, hserials, hsame, hjs, hrunning, hlogged, hflight⟩ := h
  have hlen : s.flights.length = s.running.length := by rw [flights_eq, List.length_map]
  have hpaired : s.flights.Perm (s.takes.journal.map JournalRecord.flight) := by
    refine (List.Nodup.subperm (flights_nodup hs).of_map fun x hx => ?_).perm_of_length_le ?_
    · rw [flights_eq, List.mem_map] at hx
      obtain ⟨e, he, rfl⟩ := hx
      obtain ⟨j, hj, hmatch⟩ := List.any_eq_true.mp (hrunning e he)
      simp only [Bool.and_eq_true, beq_iff_eq] at hmatch
      exact List.mem_map.mpr ⟨j, hj, by rw [JournalRecord.flight, hmatch.1, hmatch.2]⟩
    · rw [List.length_map, hlen, hsame]
  refine ⟨⟨hdesk, htakes, fun j hj => (hjournal j hj).1, fun j hj r hd => ?_, hlength, haged, hserials, hjs,
    fun j hj => ?_, fun r hr => ?_⟩, fun c hc x hx => ?_, hlen ▸ htwo, hpaired⟩
  · have hall := (hjournal j hj).2
    rw [hd] at hall
    simpa using hall
  · simpa using hlogged j hj
  · simpa using Bool.eq_iff_iff.mp (hflight r hr)
  · have hall := hcounts c hc
    rw [hx] at hall
    simpa using hall

theorem takeInv_of_takeSound {s : State} (h : TakeSound s) : TakeInv s := by
  have hlen : s.flights.length = s.running.length := by rw [flights_eq, List.length_map]
  have u := h.unit
  refine ⟨hlen ▸ h.two, u.deskLog, fun c hc => ?_, u.takes, fun j hj => ⟨u.counts j hj, ?_⟩, u.length, u.aged, u.serials,
    ?_, u.journalSerials, fun e he => ?_, fun j hj => ?_, fun r hr => ?_⟩
  · cases c with
    | none => rfl
    | some x => exact decide_eq_true (h.counts _ hc x rfl)
  · cases hd : j.displaced with
    | none => rfl
    | some r => exact decide_eq_true (u.displaced j hj r hd)
  · have := h.paired.length_eq
    rw [List.length_map] at this
    omega
  · have hmem : (e.slot, e.serial) ∈ s.flights := by
      rw [flights_eq]
      exact List.mem_map_of_mem he
    obtain ⟨j, hj, e'⟩ := List.mem_map.mp (h.paired.mem_iff.mp hmem)
    obtain ⟨hslot, hserial⟩ := Prod.mk.inj e'
    exact List.any_eq_true.mpr ⟨j, hj, by simp [hslot, hserial]⟩
  · simpa using u.logged j hj
  · rw [Bool.eq_iff_iff]
    simpa using u.inFlight r hr

/-- What neither the take unit nor the table nor the takes in flight are touched by keeps them sound. -/
theorem takeSound_of_flights {s t : State} (hcues : t.cues = s.cues) (htakes : t.takes = s.takes)
    (hflights : t.flights.Perm s.flights) (h : TakeSound s) : TakeSound t :=
  ⟨htakes ▸ h.unit, hcues ▸ h.counts, hflights.length_eq ▸ h.two, htakes ▸ hflights.trans h.paired⟩

theorem takeSound_of_takesKept {s t : State} (hk : TakesKept s t) (h : TakeSound s) : TakeSound t :=
  takeSound_of_flights hk.cues hk.takes (flights_of_unclaimed hk.entries ▸ .refl _) h

/-- The journal record of a take in flight is the one of its serial and the one of its slot. -/
theorem journal_slot_iff {s : State} (h : TakeSound s) (hs : s.slotsDistinct) {slot : Nat} {n : Word16}
    (hf : (slot, some n) ∈ s.flights) {j : JournalRecord} (hj : j ∈ s.takes.journal) : j.serial = n ↔ j.slot = slot := by
  obtain ⟨i, hi, e⟩ := List.mem_map.mp (h.paired.mem_iff.mp hf)
  obtain ⟨hslot, hserial⟩ := Prod.mk.inj e
  obtain rfl := Option.some.inj hserial
  refine ⟨fun k => by rw [h.unit.journal_eq_of_serial hj hi k, hslot], fun k => ?_⟩
  have hfj : j.flight ∈ s.flights := h.paired.mem_iff.mpr (List.mem_map_of_mem hj)
  have hsame := List.inj_on_of_nodup_map (flights_nodup hs) hfj hf k
  exact Option.some.inj (Prod.mk.inj hsame).2

end Sys2Proof.Machine
end

/-! ## What ends, undoes and removes takes, and what starts one (R94, R95, R100 to R106) -/

section
namespace Sys2Proof.Machine

open Sys2Proof.Safety

/-! ### Takes that have left some slots -/

/-- No take is in flight in these slots any more, and in the others the same takes are: their journal records stand. -/
structure Landed (l : List Nat) (s t : State) : Prop where
  sound : TakeSound t
  slots : (t.entries.map Entry.slot).Sublist (s.entries.map Entry.slot)
  flights : t.flights = s.flights.filter (fun x => decide (x.1 ∉ l))
  journal : t.takes.journal = s.takes.journal.filter (fun j => decide (j.slot ∉ l))
  serial : t.takes.serial = s.takes.serial

namespace Landed

theorem distinct {l : List Nat} {s t : State} (h : Landed l s t) (hs : s.slotsDistinct) : t.slotsDistinct :=
  hs.sublist h.slots

theorem of_takesKept {s t : State} (hk : TakesKept s t) (h : TakeSound s) : Landed [] s t :=
  ⟨takeSound_of_takesKept hk h, slots_of_unclaimed hk.entries ▸ .refl _,
    by simp [flights_of_unclaimed hk.entries], by simp [hk.takes], by rw [hk.takes]⟩

theorem trans {k l : List Nat} {s t u : State} (h : Landed k s t) (g : Landed l t u) : Landed (k ++ l) s u := by
  refine ⟨g.sound, g.slots.trans h.slots, ?_, ?_, g.serial.trans h.serial⟩
  · rw [g.flights, h.flights, List.filter_filter]
    exact List.filter_congr fun x _ => by simp [Bool.and_comm]
  · rw [g.journal, h.journal, List.filter_filter]
    exact List.filter_congr fun j _ => by simp [Bool.and_comm]

/-- Claims, evidence, messages and outputs that follow change nothing of it. -/
theorem then_kept {l : List Nat} {s t u : State} (h : Landed l s t) (hk : TakesKept t u) : Landed l s u := by
  simpa using h.trans (of_takesKept hk h.sound)

/-- In a slot that has no take in flight nothing has to end. -/
theorem of_idle {slot : Nat} {s : State} (h : TakeSound s) (hidle : ∀ x ∈ s.flights, x.1 ≠ slot) : Landed [slot] s s := by
  refine ⟨h, .refl _, (List.filter_eq_self.mpr fun x hx => ?_).symm, (List.filter_eq_self.mpr fun j hj => ?_).symm, rfl⟩
  · simpa using hidle x hx
  · simpa [JournalRecord.flight] using hidle j.flight (h.paired.mem_iff.mpr (List.mem_map_of_mem hj))

/-- What each step lands in its own slot, the steps of a list land in theirs. -/
theorem foldl {f : State → Nat → State}
    (hf : ∀ u slot, TakeSound u → u.slotsDistinct → Landed [slot] u (f u slot)) (l : List Nat) {s : State}
    (h : TakeSound s) (hs : s.slotsDistinct) : Landed l s (l.foldl f s) := by
  induction l generalizing s with
  | nil => exact .of_takesKept (.refl s) h
  | cons slot l ih =>
    have hfirst := hf s slot h hs
    exact hfirst.trans (ih hfirst.sound (hfirst.distinct hs))

end Landed

/-- The entry of a slot may go where no take is in flight in it. -/
theorem landed_removeEntry {slot : Nat} {s : State} (h : TakeSound s) (hidle : ∀ x ∈ s.flights, x.1 ≠ slot) :
    Landed [slot] s (removeEntry slot s) := by
  have hflights : (removeEntry slot s).flights = s.flights := by
    refine (filterMap_flight_removed slot s.entries).trans (List.filter_eq_self.mpr fun x hx => ?_)
    simpa using hidle x hx
  have hsame := Landed.of_idle h hidle
  exact ⟨takeSound_of_flights (s := s) (t := removeEntry slot s) rfl rfl (by rw [hflights]) h,
    List.filter_sublist.map _, hflights.trans hsame.flights, hsame.journal, rfl⟩

/-- After its take has ended, the entry of a slot may go. -/
theorem Landed.then_removed {slot : Nat} {s t : State} (h : Landed [slot] s t) : Landed [slot] s (removeEntry slot t) := by
  have hidle : ∀ x ∈ t.flights, x.1 ≠ slot := fun x hx => by
    rw [h.flights] at hx
    simpa using (List.mem_filter.mp hx).2
  have htwice := h.trans (landed_removeEntry h.sound hidle)
  exact ⟨htwice.sound, htwice.slots, htwice.flights.trans (List.filter_congr fun x _ => by simp),
    htwice.journal.trans (List.filter_congr fun j _ => by simp), htwice.serial⟩

/-! ### Ends, keeps and unwinds (R100 to R105) -/

/-- A slot has a take in flight, with its serial, or none of the takes in flight is its own. -/
theorem flight_cases {s : State} (h : TakeSound s) (hs : s.slotsDistinct) (slot : Nat) :
    (∃ e n, s.entryOf slot = some e ∧ e.slot = slot ∧ e.take = .running ∧ e.serial = some n ∧
        (slot, some n) ∈ s.flights) ∨
      ((∀ x ∈ s.flights, x.1 ≠ slot) ∧ ∀ e, s.entryOf slot = some e → e.take ≠ .running) := by
  by_cases hrun : ∃ e, s.entryOf slot = some e ∧ e.take = .running
  · obtain ⟨e, he, hr⟩ := hrun
    have hslot := slot_of_entryOf he
    have hf : (slot, e.serial) ∈ s.flights :=
      List.mem_filterMap.mpr ⟨e, List.mem_of_find?_eq_some he, by rw [Entry.flight_of_running hr, hslot]⟩
    obtain ⟨j, -, hj⟩ := List.mem_map.mp (h.paired.mem_iff.mp hf)
    have hserial : e.serial = some j.serial := (Prod.mk.inj hj).2.symm
    exact .inl ⟨e, j.serial, he, hslot, hr, hserial, hserial ▸ hf⟩
  · refine .inr ⟨fun x hx hxs => ?_, fun e he hr => hrun ⟨e, he, hr⟩⟩
    obtain ⟨e, he, hfx⟩ := List.mem_filterMap.mp hx
    have hslot : e.slot = slot := (Entry.slot_of_flight hfx).symm.trans hxs
    refine hrun ⟨e, hslot ▸ entryOf_of_mem hs he, ?_⟩
    by_contra hr
    rw [Entry.flight_of_not_running hr] at hfx
    cases hfx

theorem counts_modify {slot : Nat} {f : Cue → Cue} {cues : List (Option Cue)}
    (h : ∀ c ∈ cues, ∀ x, c = some x → x.takeCount ≤ 99 ∧ x.circled ≤ 99)
    (hf : ∀ x : Cue, x.takeCount ≤ 99 ∧ x.circled ≤ 99 → (f x).takeCount ≤ 99 ∧ (f x).circled ≤ 99) :
    ∀ c ∈ cues.modify slot (Option.map f), ∀ x, c = some x → x.takeCount ≤ 99 ∧ x.circled ≤ 99 := by
  rintro c hc x rfl
  obtain ⟨i, hi⟩ := List.mem_iff_getElem?.mp hc
  rw [List.getElem?_modify] at hi
  rcases hget : cues[i]? with _ | _ | y
  · simp [hget] at hi
  · rw [hget] at hi
    split at hi <;> simp at hi
  · have hy := h _ (List.mem_of_getElem? hget) y rfl
    rw [hget] at hi
    split at hi
    · obtain rfl : f y = x := by simpa using hi
      exact hf y hy
    · obtain rfl : y = x := by simpa using hi
      exact hy

/-- A take in flight has ended where its journal record is emptied and its entry runs no more. -/
theorem landed_of_ended {s t : State} (h : TakeSound s) (hs : s.slotsDistinct) {slot : Nat} {n : Word16}
    (hf : (slot, some n) ∈ s.flights) (hunit : UnitSound t.takes)
    (hcounts : ∀ c ∈ t.cues, ∀ x, c = some x → x.takeCount ≤ 99 ∧ x.circled ≤ 99) {f : Entry → Entry}
    (hentries : t.entries = s.entries.map (fun e => if e.slot == slot then f e else e))
    (hslot : ∀ e, (f e).slot = e.slot) (hended : ∀ e, (f e).take ≠ .running)
    (hjournal : t.takes.journal = s.takes.journal.filter (fun j => j.serial != n))
    (hserial : t.takes.serial = s.takes.serial) : Landed [slot] s t := by
  have hflights : t.flights = s.flights.filter (fun x => decide (x.1 ∉ [slot])) := by
    rw [State.flights, hentries, filterMap_flight_landed fun e _ => Entry.flight_of_not_running (hended e)]
    exact List.filter_congr fun x _ => by simp [bne, Bool.beq_eq_decide_eq]
  have hfilter : t.takes.journal = s.takes.journal.filter (fun j => decide (j.slot ∉ [slot])) := by
    rw [hjournal]
    refine List.filter_congr fun j hj => ?_
    have hiff := journal_slot_iff h hs hf hj
    rw [Bool.eq_iff_iff]
    simpa using not_congr hiff
  refine ⟨⟨hunit, hcounts, ?_, ?_⟩, ?_, hflights, hfilter, hserial⟩
  · rw [hflights]
    exact (List.length_filter_le _ _).trans h.two
  · rw [hflights, hfilter]
    refine (h.paired.filter _).trans ?_
    rw [List.filter_map]
    rfl
  · have hmap : t.entries.map Entry.slot = s.entries.map Entry.slot := by
      rw [hentries, List.map_map]
      refine List.map_congr_left fun e _ => ?_
      show (if e.slot == slot then f e else e).slot = e.slot
      split <;> simp [hslot]
    rw [hmap]

theorem landed_closeTake {s : State} (h : TakeSound s) (hs : s.slotsDistinct) {slot : Nat} {n : Word16}
    (hf : (slot, some n) ∈ s.flights) {result : TakeResult} (hr : result ≠ .inFlight) (stop : Nat) :
    Landed [slot] s (closeTake result stop slot n s) := by
  have hclosed : Landed [slot] s (closedTake result stop slot n s) :=
    landed_of_ended h hs hf (unitSound_closed h.unit hr stop n)
      (counts_modify (f := fun c => { c with lastResult := some result }) h.counts fun _ hx => hx)
      (f := fun e => { e with take := .ended }) rfl (fun _ => rfl) (by simp) rfl rfl
  exact hclosed.then_kept (.of_queueOnly (queueOnly_closeTake result stop slot n s))

/-- The journal record of a take in flight is found by its serial. -/
theorem journal_find {s : State} (h : TakeSound s) {slot : Nat} {n : Word16} (hf : (slot, some n) ∈ s.flights) :
    ∃ j ∈ s.takes.journal, s.takes.journal.find? (fun j => j.serial == n) = some j ∧ j.slot = slot ∧ j.serial = n := by
  obtain ⟨i, hi, e⟩ := List.mem_map.mp (h.paired.mem_iff.mp hf)
  obtain ⟨hslot, hserial⟩ := Prod.mk.inj e
  obtain rfl := Option.some.inj hserial
  rcases hj : s.takes.journal.find? (fun j => j.serial == i.serial) with _ | j
  · have hne := List.find?_eq_none.mp hj i hi
    simp at hne
  · have hm := List.mem_of_find?_eq_some hj
    obtain rfl := h.unit.journal_eq_of_serial hm hi (by simpa using List.find?_some hj)
    exact ⟨_, hm, hj, hslot, rfl⟩

theorem landed_unwindTake {s : State} (h : TakeSound s) (hs : s.slotsDistinct) {slot : Nat} {n : Word16}
    (hf : (slot, some n) ∈ s.flights) : Landed [slot] s (unwindTake slot n s) := by
  obtain ⟨j, hj, hfind, -, hn⟩ := journal_find h hf
  rw [unwindTake_eq hfind]
  refine landed_of_ended h hs hf (unitSound_unwound h.unit hj) ?_ (f := fun e => { e with take := .ended, serial := none })
    rfl (fun _ => rfl) (by simp) (by rw [← hn]; rfl) rfl
  exact counts_modify (f := fun c => { c with lastResult := j.lastResult, takeCount := j.takeCount }) h.counts
    fun _ hx => ⟨h.unit.counts j hj, hx.2⟩

theorem landed_stopTake {s : State} (h : TakeSound s) (hs : s.slotsDistinct) {e : Entry} {n : Word16}
    (hf : (e.slot, some n) ∈ s.flights) : Landed [e.slot] s (stopTake e n s) := by
  unfold stopTake
  split
  · exact landed_closeTake h hs hf (by decide) _
  · exact landed_unwindTake h hs hf

/-- The abort of a slot's take is the stop of it, and the release of its claim where the cause gives that back (R103). -/
theorem abortTake_of_running {cause : TakeCause} {slot : Nat} {s : State} {e : Entry} {n : Word16}
    (he : s.entryOf slot = some e) (hr : e.take = .running) (hn : e.serial = some n) :
    abortTake cause slot s =
      if causeReleases cause then releaseClaim .abort slot (stopTake e n s) else stopTake e n s := by
  simp [abortTake, he, hr, hn]

theorem abortTake_of_idle {cause : TakeCause} {slot : Nat} {s : State}
    (h : ∀ e, s.entryOf slot = some e → e.take ≠ .running) : abortTake cause slot s = s := by
  unfold abortTake
  split
  · next e he =>
    split
    · next hr _ => exact absurd hr (h e he)
    · rfl
  · rfl

theorem landed_abortTake (cause : TakeCause) (slot : Nat) {s : State} (h : TakeSound s) (hs : s.slotsDistinct) :
    Landed [slot] s (abortTake cause slot s) := by
  rcases flight_cases h hs slot with ⟨e, n, he, hslot, hr, hn, hf⟩ | ⟨hidle, hno⟩
  · rw [abortTake_of_running he hr hn]
    have hstop : Landed [slot] s (stopTake e n s) := hslot ▸ landed_stopTake h hs (hslot ▸ hf)
    split
    · exact hstop.then_kept (takesKept_releaseClaim _ _ _)
    · exact hstop
  · rw [abortTake_of_idle hno]
    exact .of_idle h hidle

theorem landed_abortTakes (cause : TakeCause) {s : State} (h : TakeSound s) (hs : s.slotsDistinct) :
    Landed (s.entries.map Entry.slot) s (abortTakes cause s) :=
  .foldl (f := fun t slot => abortTake cause slot t) (fun _ slot => landed_abortTake cause slot) _ h hs

/-- Once every slot has landed no take is in flight. -/
theorem flights_of_landed_all {s t : State} (h : Landed (s.entries.map Entry.slot) s t) : t.flights = [] := by
  rw [h.flights]
  refine List.filter_eq_nil_iff.mpr fun x hx => ?_
  obtain ⟨e, he, hfx⟩ := List.mem_filterMap.mp hx
  simpa using ⟨e, he, (Entry.slot_of_flight hfx).symm⟩

theorem endResult_ne_inFlight (e : Entry) : endResult e ≠ .inFlight := by
  unfold endResult
  split_ifs <;> decide

theorem landed_punchOutTake (slot : Nat) {s : State} (h : TakeSound s) (hs : s.slotsDistinct) :
    Landed [slot] s (punchOutTake slot s) := by
  rcases flight_cases h hs slot with ⟨e, n, he, -, hr, hn, hf⟩ | ⟨hidle, hno⟩
  · have hend : punchOutTake slot s = closeTake (endResult e) e.marks.punchOut slot n s := by
      simp [punchOutTake, he, hr, hn]
    rw [hend]
    exact landed_closeTake h hs hf (endResult_ne_inFlight e) _
  · have hend : punchOutTake slot s = s := by
      unfold punchOutTake
      split
      · next e he =>
        split
        · next hr _ => exact absurd hr (hno e he)
        · rfl
      · rfl
    rw [hend]
    exact .of_idle h hidle

/-- The punch-out mark (R62). -/
theorem landed_retire (slot : Nat) {s : State} (h : TakeSound s) (hs : s.slotsDistinct) :
    Landed [slot] s (retire slot s) :=
  ((landed_punchOutTake slot h hs).then_kept (takesKept_releaseClaim _ _ _)).then_removed

/-- The entry of a deselected slot (R67). -/
theorem landed_deselectEntry (slot : Nat) {s : State} (h : TakeSound s) (hs : s.slotsDistinct) :
    Landed [slot] s (deselectEntry slot s) :=
  ((landed_abortTake .deselect slot h hs).then_kept (takesKept_releaseClaim _ _ _)).then_removed

theorem landed_deselectEntries (range : Nat × Nat) {s : State} (h : TakeSound s) (hs : s.slotsDistinct) :
    Landed ((s.entries.map Entry.slot).filter (inRange range)) s (deselectEntries range s) :=
  .foldl (f := fun t slot => deselectEntry slot t) (fun _ slot => landed_deselectEntry slot) _ h hs

/-! ### A take that starts (R94, R95) -/

theorem takeSound_startTake {s : State} (h : TakeSound s) (hs : s.slotsDistinct) {slot : Nat} {c : Cue} {e : Entry}
    (he : s.entryOf slot = some e) (hidle : e.take ≠ .running) (hc : c.takeCount < 99) (hfew : s.running.length < 2)
    (hfresh : ∀ j ∈ s.takes.journal, j.serial ≠ s.takes.serial + 1#16) : TakeSound (startTake slot c e s) := by
  have hslot := slot_of_entryOf he
  have hlen : s.flights.length = s.running.length := by rw [flights_eq, List.length_map]
  have hjournal := h.paired.length_eq
  rw [List.length_map] at hjournal
  have hstarted : (startTake slot c e s).flights.Perm ((slot, some (s.takes.serial + 1#16)) :: s.flights) := by
    rw [startTake_eq, State.flights, ← hslot]
    exact filterMap_flight_started (f := fun x => { x with take := .running, serial := some (s.takes.serial + 1#16) }) hs
      (List.mem_of_find?_eq_some he) (Entry.flight_of_not_running hidle) rfl
  have hforget : (s.takes.journal.map (JournalRecord.forget (s.takes.serial + 1#16))).map JournalRecord.flight =
      s.takes.journal.map JournalRecord.flight := by
    simp [Function.comp_def, JournalRecord.flight]
  have htakes : (startTake slot c e s).takes = startLog slot c e (decide (s.ref.transport = .vari)) s.takes := by
    rw [startTake_eq]
  refine ⟨?_, ?_, ?_, hstarted.trans ?_⟩
  · rw [htakes]
    exact unitSound_startLog h.unit slot hc e _ hfresh (by omega)
  · rw [startTake_eq]
    exact counts_modify (f := fun x => { x with takeCount := c.takeCount + 1, lastResult := some .inFlight }) h.counts
      fun _ hx => ⟨hc, hx.2⟩
  · rw [hstarted.length_eq, List.length_cons]
    omega
  · rw [htakes, startLog, List.map_append, hforget]
    exact (h.paired.cons _).trans (List.perm_append_singleton _ _).symm

end Sys2Proof.Machine
end

/-! ## The rows and the takes (R94, R100 to R106): every row keeps the bounds of takes, log and journal -/

section
namespace Sys2Proof.Machine

open Sys2Proof.Safety

/-! ### Entries made, kept and dropped by a recomputation (R52 to R55) -/

theorem insertEntry_perm (e : Entry) (es : List Entry) : (insertEntry e es).Perm (e :: es) := by
  induction es with
  | nil => exact .refl _
  | cons x xs ih =>
    unfold insertEntry
    split
    · exact .refl _
    · exact (ih.cons x).trans (.swap e x xs)

/-- New keys put the entries in a new order. -/
theorem rekeyed_perm (D p : Nat) (es : List Entry) :
    (rekeyed D p es).Perm (es.map (fun e => { e with key := keyOf D p e.marks })) := by
  have hfold (l acc : List Entry) : (l.foldl (fun acc e => insertEntry e acc) acc).Perm (l ++ acc) := by
    induction l generalizing acc with
    | nil => exact .refl _
    | cons e l ih => exact (ih _).trans (((insertEntry_perm e acc).append_left l).trans List.perm_middle)
  simpa [rekeyed] using hfold (es.map (fun e => { e with key := keyOf D p e.marks })) []

theorem flights_refreshKeys (s : State) : (refreshKeys s).flights.Perm s.flights := by
  refine ((rekeyed_perm _ _ _).filterMap _).trans ?_
  rw [List.filterMap_map]
  exact .refl _

theorem flights_evict (slot : Nat) (s : State) : (evict slot s).flights = s.flights.filter (fun x => x.1 != slot) := by
  rw [← flights_of_unclaimed (takesKept_releaseClaim .evict slot s).entries]
  exact filterMap_flight_removed slot _

theorem freshTake_ne_running (D p : Nat) (m : Marks) : freshTake D p m ≠ .running := by
  unfold freshTake
  split <;> decide

theorem flights_createEntry (slot : Nat) (s : State) : (createEntry slot s).flights.Perm s.flights := by
  unfold createEntry
  split
  · next c _ =>
    rw [flights_of_unclaimed (takesKept_newClaim slot _).entries]
    refine ((insertEntry_perm _ _).filterMap _).trans ?_
    rw [List.filterMap_cons, Entry.flight_of_not_running (freshTake_ne_running _ _ _)]
    exact .refl _
  · exact .refl _

/-- The new set holds the slots of the takes in flight, so none of them is evicted (R53, R54). -/
theorem flights_reform (s : State) : (reform s).flights.Perm s.flights := by
  have hcreate (l : List Nat) (u : State) : (l.foldl (fun t slot => createEntry slot t) u).flights.Perm u.flights := by
    induction l generalizing u with
    | nil => exact .refl _
    | cons slot l ih => exact (ih _).trans (flights_createEntry slot u)
  have hevict (l : List Nat) (u : State) (h : ∀ x ∈ u.flights, x.1 ∉ l) :
      (l.foldl (fun t slot => evict slot t) u).flights = u.flights := by
    induction l generalizing u with
    | nil => rfl
    | cons slot l ih =>
      have hsame : (evict slot u).flights = u.flights := by
        rw [flights_evict]
        exact List.filter_eq_self.mpr fun x hx => by simpa using fun e : x.1 = slot => h x hx (e ▸ List.mem_cons_self)
      exact (ih _ fun x hx hl => h x (hsame ▸ hx) (List.mem_cons_of_mem _ hl)).trans hsame
  refine (hcreate _ _).trans ?_
  rw [hevict _ _ fun x hx hl => ?kept]
  · exact flights_refreshKeys s
  case kept =>
    rw [flights_eq] at hx
    obtain ⟨e, he, rfl⟩ := List.mem_map.mp hx
    have hnew : e.slot ∈ (refreshKeys s).newSet := List.mem_append_left _ (List.mem_map_of_mem he)
    simp [hnew] at hl

theorem takeSound_recompute {s : State} (h : TakeSound s) : TakeSound (recompute s) := by
  have hkept := tablesKept_recompute s
  refine takeSound_of_flights hkept.cues hkept.takes ?_ h
  unfold recompute
  split
  · exact flights_reform s
  · exact .refl _

/-- Entries changed one by one in what says nothing of their takes. -/
theorem flights_map {f : Entry → Entry} (hf : ∀ e, (f e).flight = e.flight) {s t : State}
    (ht : t.entries = s.entries.map f) : t.flights = s.flights := by
  rw [State.flights, ht, List.filterMap_map]
  exact List.filterMap_congr fun e _ => hf e

theorem flights_setPhases (s : State) : (setPhases s).flights = s.flights :=
  flights_map (f := fun e => { e with phase := phaseAt s.day s.ref.position e.marks }) (fun _ => rfl) rfl

theorem takeSound_setPhases {s : State} (h : TakeSound s) : TakeSound (setPhases s) :=
  takeSound_of_flights (s := s) rfl rfl (by rw [flights_setPhases]) h

theorem flight_newPass (D p : Nat) (e : Entry) : (e.newPass D p).flight = e.flight := by
  unfold Entry.newPass
  split
  · rfl
  · next h => rw [Entry.flight_of_not_running h, Entry.flight_of_not_running (freshTake_ne_running _ _ _)]

theorem flights_rebuildEntry (slot : Nat) (s : State) : (rebuildEntry slot s).flights = s.flights := by
  have hpass : (s.updateEntry slot (Entry.newPass s.day s.ref.position)).flights = s.flights :=
    flights_map (f := fun e => if e.slot == slot then e.newPass s.day s.ref.position else e)
      (fun e => by split <;> simp [flight_newPass]) rfl
  unfold rebuildEntry
  split
  · split
    · rw [flights_of_unclaimed (takesKept_newClaim slot _).entries, hpass]
    · exact hpass
  · rfl

theorem takeSound_rebuild {s : State} (h : TakeSound s) : TakeSound (rebuild s) := by
  have hfold (l : List Nat) {u : State} (hu : TakeSound u) :
      TakeSound (l.foldl (fun t slot => rebuildEntry slot t) u) := by
    induction l generalizing u with
    | nil => exact hu
    | cons slot l ih =>
      have hkept := tablesKept_rebuildEntry slot u
      exact ih (takeSound_of_flights hkept.cues hkept.takes (by rw [flights_rebuildEntry]) hu)
  exact takeSound_setPhases (hfold _ (takeSound_of_takesKept (takesKept_out _ _) (takeSound_recompute h)))

/-! ### Takes sound and young (R59, R62, R94) -/

/-- Sound takes of at most four entries, one of each slot, with no take in flight older than n takes. -/
structure TakeGood (n : Nat) (s : State) : Prop where
  sound : TakeSound s
  distinct : s.slotsDistinct
  few : s.entries.length ≤ 4
  young : ∀ j ∈ s.takes.journal, ageOf s.takes.serial j.serial ≤ n

namespace TakeGood

theorem mono {n k : Nat} (hle : n ≤ k) {s : State} (h : TakeGood n s) : TakeGood k s :=
  ⟨h.sound, h.distinct, h.few, fun j hj => (h.young j hj).trans hle⟩

theorem of_landed {l : List Nat} {n : Nat} {s t : State} (hl : Landed l s t) (h : TakeGood n s) : TakeGood n t := by
  refine ⟨hl.sound, hl.distinct h.distinct, ?_, fun j hj => ?_⟩
  · have hlen := hl.slots.length_le
    rw [List.length_map, List.length_map] at hlen
    exact hlen.trans h.few
  · rw [hl.journal] at hj
    rw [hl.serial]
    exact h.young j (List.mem_filter.mp hj).1

theorem of_takesKept {n : Nat} {s t : State} (hk : TakesKept s t) (h : TakeGood n s) : TakeGood n t :=
  h.of_landed (.of_takesKept hk h.sound)

/-- Entries changed one by one in what says nothing of their slots and takes. -/
theorem mapEntries {f : Entry → Entry} (hslot : ∀ e, (f e).slot = e.slot) (hf : ∀ e, (f e).flight = e.flight) {n : Nat}
    {s : State} (h : TakeGood n s) : TakeGood n { s with entries := s.entries.map f } := by
  have hflights : State.flights { s with entries := s.entries.map f } = s.flights := flights_map hf rfl
  refine ⟨takeSound_of_flights (s := s) rfl rfl (by rw [hflights]) h.sound, ?_, ?_, h.young⟩
  · simpa [State.slotsDistinct, Function.comp_def, hslot] using h.distinct
  · simpa using h.few

end TakeGood

/-- An entry without a take in flight is changed to another such. -/
theorem landed_idleEntry {slot : Nat} {f : Entry → Entry} (hslot : ∀ e, (f e).slot = e.slot)
    (hf : ∀ e, (f e).take ≠ .running) {s : State} (h : TakeSound s) (hidle : ∀ x ∈ s.flights, x.1 ≠ slot) :
    Landed [slot] s (s.updateEntry slot f) := by
  have hsame := Landed.of_idle h hidle
  have hflights : (s.updateEntry slot f).flights = s.flights := by
    refine (filterMap_flight_landed (fun e _ => Entry.flight_of_not_running (hf e)) s.entries).trans ?_
    exact List.filter_eq_self.mpr fun x hx => by simpa using hidle x hx
  refine ⟨takeSound_of_flights (s := s) rfl rfl (by rw [hflights]) h, ?_, hflights.trans hsame.flights, hsame.journal, rfl⟩
  have hmap : (s.updateEntry slot f).entries.map Entry.slot = s.entries.map Entry.slot := by
    refine List.map_map.trans (List.map_congr_left fun e _ => ?_)
    show (if e.slot == slot then f e else e).slot = e.slot
    split <;> simp [hslot]
  rw [hmap]

theorem takeGood_startTake {n : Nat} (hn : n < 65535) {s : State} (h : TakeGood n s) {slot : Nat} {c : Cue} {e : Entry}
    (he : s.entryOf slot = some e) (hidle : e.take ≠ .running) (hc : c.takeCount < 99) (hfew : s.running.length < 2) :
    TakeGood (n + 1) (startTake slot c e s) := by
  have hfresh : ∀ j ∈ s.takes.journal, j.serial ≠ s.takes.serial + 1#16 := fun j hj e => by
    have hyoung := h.young j hj
    have hnext : ageOf s.takes.serial (s.takes.serial + 1#16) = 65535 := by
      unfold ageOf
      bv_omega
    rw [e, hnext] at hyoung
    omega
  have hentries : (startTake slot c e s).entries = s.entries.map
      (fun x => if x.slot == slot then { x with take := .running, serial := some (s.takes.serial + 1#16) } else x) := by
    rw [startTake_eq]
  refine ⟨takeSound_startTake h.sound h.distinct he hidle hc hfew hfresh, ?_, ?_, ?_⟩
  · have hmap : (startTake slot c e s).entries.map Entry.slot = s.entries.map Entry.slot := by
      rw [hentries, List.map_map]
      refine List.map_congr_left fun x _ => ?_
      show Entry.slot (if x.slot == slot then _ else x) = x.slot
      split <;> rfl
    rw [State.slotsDistinct, hmap]
    exact h.distinct
  · rw [hentries, List.length_map]
    exact h.few
  · rw [startTake_eq]
    intro j hj
    rcases List.mem_append.mp hj with hj | hj
    · obtain ⟨i, hi, rfl⟩ := List.mem_map.mp hj
      rw [JournalRecord.forget_serial]
      exact (ageOf_succ (hfresh i hi)).trans_le (Nat.succ_le_succ (h.young i hi))
    · rw [List.mem_singleton.mp hj]
      simp [startLog, ageOf]

theorem takeGood_punchInTake (slot : Nat) {n : Nat} (hn : n < 65535) {s : State} (h : TakeGood n s) :
    TakeGood (n + 1) (punchInTake slot s) := by
  have hsame : TakeGood (n + 1) s := h.mono (Nat.le_succ n)
  unfold punchInTake
  split
  · next e c he _ =>
    split_ifs with htrack hdown hidle hlimit hfew
    · exact hsame
    · exact hsame
    · exact hsame
    all_goals
      have hstill : e.take ≠ .running := fun k => hidle (by simp [k])
    case' pos | pos =>
      have hgiven := Landed.of_takesKept (takesKept_releaseLimit slot s) h.sound
      have hnone : ∀ x ∈ (releaseLimit slot s).flights, x.1 ≠ slot := by
        rw [flights_of_unclaimed (takesKept_releaseLimit slot s).entries]
        rcases flight_cases h.sound h.distinct slot with ⟨x, _, hx, _, hr, _⟩ | ⟨hnone, -⟩
        · exact absurd (Option.some.inj (hx.symm.trans he) ▸ hr) hstill
        · exact hnone
      refine hsame.of_landed (hgiven.trans (landed_idleEntry ?_ ?_ hgiven.sound hnone)) <;> simp
    · exact takeGood_startTake hn h he hstill (Nat.lt_of_not_le hlimit) (Nat.lt_of_not_le hfew)
  · exact hsame

theorem takeGood_markAction (slot pos : Nat) (k : MarkKind) {n : Nat} (hn : n < 65535) {s : State} (h : TakeGood n s) :
    TakeGood (n + 1) (markAction slot pos k s) := by
  have hsame : TakeGood (n + 1) s := h.mono (Nat.le_succ n)
  cases k with
  | windowOpen | streamerStart | cueOut => exact hsame
  | beep3 | beep2 | beep1 => exact hsame.of_takesKept (takesKept_beepMark _ _ s)
  | punchIn => exact takeGood_punchInTake slot hn h
  | cueIn => exact hsame.of_takesKept (takesKept_out _ s)
  | punchOut => exact hsame.of_landed (landed_retire slot h.sound h.distinct)

theorem takeGood_takeMark (o j slot : Nat) (k : MarkKind) {n : Nat} (hn : n < 65535) {s : State} (h : TakeGood n s) :
    TakeGood (n + 1) (takeMark o j slot k s) := by
  have hsame : TakeGood (n + 1) s := h.mono (Nat.le_succ n)
  unfold takeMark
  split
  · split
    · split
      · exact takeGood_markAction _ _ _ hn
          (h.mapEntries (f := fun e => if e.slot == slot then e.cross k else e) (fun e => by split <;> rfl)
            (fun e => by split <;> rfl))
      · exact hsame
    · exact hsame
  · exact hsame

/-- Steps that each start at most w takes. -/
theorem takeGood_foldl {α : Type} {w : Nat} {f : State → α → State}
    (hf : ∀ u x n, n + w ≤ 65535 → TakeGood n u → TakeGood (n + w) (f u x)) (l : List α) {n : Nat}
    (hn : n + w * l.length ≤ 65535) {s : State} (h : TakeGood n s) : TakeGood (n + w * l.length) (l.foldl f s) := by
  induction l generalizing n s with
  | nil => exact h
  | cons x l ih =>
    rw [List.length_cons, Nat.mul_succ] at hn ⊢
    exact (ih (by omega) (hf s x n (by omega) h)).mono (by omega)

theorem takeGood_takeMarksAt (o j : Nat) (slots : List Nat) {n : Nat} (hn : n + 9 * slots.length ≤ 65535) {s : State}
    (h : TakeGood n s) : TakeGood (n + 9 * slots.length) (takeMarksAt o j slots s) :=
  takeGood_foldl (w := 9) (fun _ slot k hk hu =>
    takeGood_foldl (w := 1) (fun _ m i hi => takeGood_takeMark o j slot m (by omega)) allMarks (n := k) hk hu) slots hn h

theorem takeGood_takeMarks (o : Nat) (d : Int) {n : Nat} (hn : n ≤ 65000) {s : State} (h : TakeGood n s) :
    TakeGood (n + 72) (takeMarks o d s) := by
  have hlen : (s.entries.map Entry.slot).length ≤ 4 := by
    rw [List.length_map]
    exact h.few
  have hfirst := takeGood_takeMarksAt o 1 (s.entries.map Entry.slot) (by omega) h
  unfold takeMarks
  split
  · exact (takeGood_takeMarksAt o 2 _ (by omega) hfirst).mono (by omega)
  · exact hfirst.mono (by omega)

end Sys2Proof.Machine
end

/-! ## Every step keeps the bounds of takes, log and journal (R93 to R97, R101, R105, R106, R110) -/

section
namespace Sys2Proof.Machine

open Sys2Proof.Safety

/-! ### Boundaries (R58, R99, R103) -/

/-- Records changed in what neither numbers, orders nor closes them. -/
theorem unitSound_mapLog {g : LogRecord → LogRecord} (hserial : ∀ r, (g r).serial = r.serial)
    (htake : ∀ r, (g r).take = r.take) (hresult : ∀ r, (g r).result = r.result) {u : TakeUnit} (h : UnitSound u) :
    UnitSound { u with log := u.log.map g } where
  deskLog := h.deskLog
  takes r hr := by
    obtain ⟨x, hx, rfl⟩ := List.mem_map.mp hr
    exact (htake x).trans_le (h.takes x hx)
  counts := h.counts
  displaced := h.displaced
  length := by simpa using h.length
  aged := List.pairwise_map.mpr (by simpa [hserial] using h.aged)
  serials := by simpa [Function.comp_def, hserial] using h.serials
  journalSerials := h.journalSerials
  logged j hj := by
    obtain ⟨r, hr, e⟩ := h.logged j hj
    exact ⟨_, List.mem_map_of_mem hr, (hserial r).trans e⟩
  inFlight r hr := by
    obtain ⟨x, hx, rfl⟩ := List.mem_map.mp hr
    rw [hserial, hresult]
    exact h.inFlight x hx

theorem takeGood_markOffSpeed {n : Nat} {s : State} (h : TakeGood n s) : TakeGood n (markOffSpeed s) := by
  have hmarked := unitSound_mapLog (g := fun r => if r.result == .inFlight then { r with offSpeed := true } else r)
    (fun r => by split <;> rfl) (fun r => by split <;> rfl) (fun r => by split <;> rfl) h.sound.unit
  unfold markOffSpeed
  split
  · exact ⟨⟨hmarked, h.sound.counts, h.sound.two, h.sound.paired⟩, h.distinct, h.few, h.young⟩
  · exact h

theorem takeGood_transportAbort (r : Report) {n : Nat} {s : State} (h : TakeGood n s) :
    TakeGood n (transportAbort r s) := by
  unfold transportAbort
  split
  · exact h.of_landed (landed_abortTakes _ h.sound h.distinct)
  · exact h

theorem takeSound_lookaheadBoundary (r : Report) {n : Nat} (hn : n ≤ 65000) {s : State} (h : TakeGood n s) :
    TakeSound (lookaheadBoundary r s) := by
  unfold lookaheadBoundary
  split
  · split
    · exact takeSound_rebuild h.sound
    · split
      · exact takeSound_setPhases (takeSound_recompute (takeGood_takeMarks _ _ hn h).sound)
      · exact takeSound_setPhases (takeSound_recompute h.sound)
  · exact h.sound

theorem takeSound_roleBoundary (r : Report) {n : Nat} (hn : n ≤ 65000) {s : State} (h : TakeGood n s) :
    TakeSound (roleBoundary r s) := by
  unfold roleBoundary boothBoundary
  split
  · exact takeSound_of_takesKept (takesKept_ageBeeps r _)
      (takeSound_lookaheadBoundary r hn (takeGood_transportAbort r (takeGood_markOffSpeed h)))
  · split
    · exact takeSound_of_takesKept (.of_recorderOnly (recorderOnly_reservationBoundary r s)) h.sound
    · exact h.sound

theorem takeSound_frameBoundary (accepted : Bool) {n : Nat} (hn : n ≤ 65000) {s : State} (h : TakeGood n s) :
    TakeSound (frameBoundary accepted s) :=
  takeSound_of_takesKept (takesKept_settleBoundary _)
    (takeSound_roleBoundary _ hn (h.of_takesKept (takesKept_openBoundary accepted s)))

theorem takeSound_countLine {n : Nat} (hn : n ≤ 65000) {s : State} (h : TakeGood n s) : TakeSound (countLine s) := by
  have hraised := h.of_takesKept (takesKept_raiseLine s)
  unfold countLine
  refine takeSound_of_takesKept (takesKept_fixKeyed _) ?_
  split
  · exact takeSound_frameBoundary _ hn hraised
  · exact hraised.sound

theorem takeSound_takeFramePulse (withLine : Bool) {n : Nat} (hn : n ≤ 65000) {s : State} (h : TakeGood n s) :
    TakeSound (takeFramePulse withLine s) := by
  have hrefused := h.of_takesKept (takesKept_refusedPulse s)
  unfold takeFramePulse
  split
  · exact takeSound_frameBoundary _ hn h
  · split
    · exact takeSound_countLine hn hrefused
    · exact hrefused.sound

theorem takeSound_unlockByTime {n : Nat} {s : State} (h : TakeGood n s) : TakeSound (unlockByTime s) := by
  have hrole (r : Report) {u : State} (hu : TakeGood n u) : TakeSound (roleUnlock r u) := by
    unfold roleUnlock
    split
    · exact (takeGood_transportAbort r hu).sound
    · split
      · exact takeSound_of_takesKept (.of_recorderOnly ((recorderOnly_protect r u).trans (recorderOnly_evaluateTracks _)))
          hu.sound
      · exact hu.sound
  exact takeSound_of_takesKept (takesKept_settle _) (hrole _ (h.of_takesKept (takesKept_openUnlock s)))

/-! ### ABORT, SELECT off, the ENGINE reset and MUTED (R66 to R70) -/

theorem takeSound_abortLookahead {n : Nat} {s : State} (h : TakeGood n s) : TakeSound (abortLookahead s) := by
  have hdown (l : List Nat) (u : State) : (l.foldl (fun t slot => standDown slot t) u).flights = u.flights := by
    induction l generalizing u with
    | nil => rfl
    | cons slot l ih =>
      have hone : (standDown slot u).flights = (releaseClaim .abort slot u).flights :=
        flights_map (f := fun e => if e.slot == slot then { e with stoodDown := true } else e)
          (fun e => by split <;> rfl) rfl
      exact (ih _).trans (hone.trans (flights_of_unclaimed (takesKept_releaseClaim .abort slot u).entries))
  have haborted := landed_abortTakes .roomAbort h.sound h.distinct
  have hkept : TablesKept (abortTakes .roomAbort s) (standAllDown s) :=
    .foldl (fun t slot => tablesKept_standDown slot t) _ _
  have hall : TakeSound (standAllDown s) :=
    takeSound_of_flights hkept.cues hkept.takes (by rw [standAllDown, hdown]) haborted.sound
  exact takeSound_recompute (takeSound_of_takesKept (.of_queueOnly (queueOnly_orderUrgent _ _ _)) hall)

theorem takeSound_takeAbort (room : AbortRoom) {n : Nat} {s : State} (h : TakeGood n s) :
    TakeSound (takeAbort room s) := by
  have hbooth : TakeSound (inBooth (abortBooth room) s) := by
    unfold inBooth abortBooth
    split_ifs
    · exact takeSound_of_takesKept (takesKept_settle _) (takeSound_abortLookahead h)
    · exact h.sound
    · exact h.sound
  exact takeSound_of_takesKept (takesKept_inRecorder (recorderOnly_abortReservations room) _) hbooth

/-- With the entries gone no take is in flight. -/
theorem takeGood_emptied {n : Nat} {s t : State} (h : TakeGood n s) (hnone : s.flights = []) (hcues : t.cues = s.cues)
    (htakes : t.takes = s.takes) (hentries : t.entries = []) : TakeGood n t := by
  have hflights : t.flights = s.flights := by rw [hnone, State.flights, hentries]; rfl
  exact ⟨takeSound_of_flights hcues htakes (by rw [hflights]) h.sound, by simp [State.slotsDistinct, hentries],
    by simp [hentries], htakes ▸ h.young⟩

theorem takeGood_enterMuted {n : Nat} {s : State} (h : TakeGood n s) : TakeGood n (enterMuted s) := by
  have hstation : TakeGood n { s with station := mutedStation s.station } := h.of_takesKept (.station _ s)
  have haborted := landed_abortTakes .muted hstation.sound hstation.distinct
  exact takeGood_emptied (hstation.of_landed haborted) (flights_of_landed_all haborted) rfl rfl rfl

theorem takeSound_resetEngine {n : Nat} {s : State} (h : TakeGood n s) : TakeSound (resetEngine s) := by
  have haborted := landed_abortTakes .engine h.sound h.distinct
  have hempty (l : List Nat) {u : State} (hu : TakeSound u) (hnone : u.flights = []) :
      TakeSound (l.foldl (fun t slot => removeEntry slot (releaseClaim .reset slot t)) u) := by
    induction l generalizing u with
    | nil => exact hu
    | cons slot l ih =>
      have hreleased := Landed.of_takesKept (takesKept_releaseClaim .reset slot u) hu
      have hnone' : (releaseClaim .reset slot u).flights = [] := by rw [hreleased.flights, hnone]; rfl
      have hremoved := landed_removeEntry (slot := slot) hreleased.sound (by simp [hnone'])
      exact ih hremoved.sound (by rw [hremoved.flights, hnone']; rfl)
  have hemptied := hempty ((abortTakes .engine s).entries.map Entry.slot) haborted.sound (flights_of_landed_all haborted)
  exact takeSound_of_takesKept (takesKept_settle _) (takeSound_recompute (takeSound_of_takesKept
    ((TakesKept.of_recorderOnly (recorderOnly_engineTracks _)).trans (takesKept_out _ _)) hemptied))

/-! ### LOAD, CLEAR, SELECT, MARK and TAKE_NOTE -/

theorem mem_of_cueAt {slot : Nat} {s : State} {c : Cue} (h : s.cueAt slot = some c) : some c ∈ s.cues := by
  obtain ⟨x, hx, rfl⟩ := Option.bind_eq_some_iff.mp h
  exact List.mem_of_getElem? hx

/-- The take counts and circled takes of a table (R26). -/
def countsBounded (cues : List (Option Cue)) : Prop := ∀ c ∈ cues, ∀ x, c = some x → x.takeCount ≤ 99 ∧ x.circled ≤ 99

theorem takeSound_tableChanged {s : State} (h : TakeSound s) : TakeSound (tableChanged s) :=
  takeSound_of_takesKept (takesKept_settle _) (takeSound_recompute h)

theorem takeSound_giveReply {dest : Addr} {r : ReplyMsg} {s : State} (h : TakeSound s) :
    TakeSound (giveReply dest r s) := takeSound_of_takesKept (takesKept_give _ _ s) h

/-- Another table bounded alike. -/
theorem TakeGood.cues {cues : List (Option Cue)} (hcues : countsBounded cues) {n : Nat} {s : State} (h : TakeGood n s) :
    TakeGood n { s with cues := cues } :=
  ⟨⟨h.sound.unit, hcues, h.sound.two, h.sound.paired⟩, h.distinct, h.few, h.young⟩

theorem takeSound_takeLoad (source : Addr) (m : LoadMsg) {n : Nat} {s : State} (h : TakeGood n s) :
    TakeSound (takeLoad source m s) := by
  cases hj : judgeLoad m s with
  | error r =>
    rw [takeLoad_of_error hj]
    exact takeSound_giveReply h.sound
  | ok counts =>
    obtain ⟨c, e⟩ := counts
    rw [takeLoad_of_ok hj]
    refine takeSound_tableChanged (takeSound_giveReply (h.cues ?_).sound)
    intro x hx y hy
    rcases List.mem_or_eq_of_mem_set hx with hold | rfl
    · exact h.sound.counts x hold y hy
    · obtain rfl := Option.some.inj hy
      have hkept : (keptTakes m.cueId (s.cueAt m.slot.toNat)).takeCount ≤ 99 ∧
          (keptTakes m.cueId (s.cueAt m.slot.toNat)).circled ≤ 99 := by
        unfold keptTakes
        split
        · next old hold =>
          split
          · exact h.sound.counts _ (mem_of_cueAt hold) old rfl
          · simp
        · simp
      exact hkept

theorem countsBounded_mapRange {range : Nat × Nat} {f : Option Cue → Option Cue} {cues : List (Option Cue)}
    (hf : ∀ c, ∀ y, f c = some y → ∃ x, c = some x ∧ y.takeCount = x.takeCount ∧ y.circled = x.circled)
    (h : countsBounded cues) : countsBounded (mapRange range f 0 cues) := by
  intro x hx y hy
  obtain ⟨i, hi⟩ := List.mem_iff_getElem?.mp hx
  simp only [mapRange_getElem?, Option.map_eq_some_iff] at hi
  obtain ⟨c, hc, rfl⟩ := hi
  have hold := h c (List.mem_of_getElem? hc)
  split at hy
  · obtain ⟨z, rfl, htake, hcircled⟩ := hf c y hy
    rw [htake, hcircled]
    exact hold z rfl
  · exact hold y hy

theorem takeSound_select (range : Nat × Nat) (on : Bool) {s : State} (h : TakeSound s) :
    TakeSound (s.changeRange range (selectSlot on)) := by
  refine ⟨h.unit, countsBounded_mapRange (fun c y hy => ?_) h.counts, h.two, h.paired⟩
  obtain ⟨x, rfl, rfl⟩ := Option.map_eq_some_iff.mp hy
  exact ⟨x, rfl, rfl, rfl⟩

theorem takeGood_select (range : Nat × Nat) (on : Bool) {n : Nat} {s : State} (h : TakeGood n s) :
    TakeGood n (s.changeRange range (selectSlot on)) :=
  ⟨takeSound_select range on h.sound, h.distinct, h.few, h.young⟩

theorem takeSound_takeClear (source : Addr) (m : RangeMsg) {n : Nat} {s : State} (h : TakeGood n s) :
    TakeSound (takeClear source m s) := by
  unfold takeClear
  split
  · split
    · exact takeSound_giveReply h.sound
    · exact takeSound_tableChanged (takeSound_giveReply
        (h.cues (countsBounded_mapRange (fun _ _ hy => by cases hy) h.sound.counts)).sound)
  · exact takeSound_giveReply h.sound

theorem takeSound_takeSelectOn (source : Addr) (m : RangeMsg) {n : Nat} {s : State} (h : TakeGood n s) :
    TakeSound (takeSelectOn source m s) := by
  unfold takeSelectOn
  split
  · exact takeSound_tableChanged (takeSound_giveReply (takeGood_select _ _ h).sound)
  · exact takeSound_giveReply h.sound

theorem takeSound_takeSelectOff (source : Addr) (m : RangeMsg) {n : Nat} {s : State} (h : TakeGood n s) :
    TakeSound (takeSelectOff source m s) := by
  unfold takeSelectOff
  split
  · next range _ =>
    have hselected := takeGood_select range false h
    exact takeSound_tableChanged (takeSound_giveReply
      (landed_deselectEntries range hselected.sound hselected.distinct).sound)
  · exact takeSound_giveReply h.sound

/-- A MARK circles a take that a record numbers (R108, R109). -/
theorem takeSound_markTake (m : MarkMsg) {s : State} (h : TakeSound s) : TakeSound (markTake m s).1 := by
  unfold markTake
  split
  · exact h
  · next r hr =>
    split
    · exact h
    · obtain ⟨hm, hmatch⟩ := List.mem_filter.mp (List.mem_of_getLast? hr)
      have htake : m.take.toNat ≤ 99 := by
        simp only [Bool.and_eq_true, beq_iff_eq] at hmatch
        exact hmatch.2 ▸ h.unit.takes r hm
      rw [updateCue_eq]
      refine ⟨unitSound_mapLog (g := fun x => if x.serial == r.serial then { x with circled := m.circle } else x)
        (fun x => by split <;> rfl) (fun x => by split <;> rfl) (fun x => by split <;> rfl) h.unit,
        counts_modify (f := circleCue m r) h.counts fun x hx => ?_, h.two, h.paired⟩
      unfold circleCue
      split_ifs <;> simp [hx, htake]

theorem takeSound_takeDeskNote (source : Addr) (m : TakeNoteMsg) {s : State} (h : TakeSound s) :
    TakeSound (takeDeskNote source m s) := by
  have hlen : (appendNote { source := source, note := m } s.takes.deskLog).length ≤ 32 := by
    have hold := h.unit.deskLog
    unfold appendNote
    split <;> simp <;> omega
  exact ⟨{ h.unit with deskLog := hlen }, h.counts, h.two, h.paired⟩

/-! ### Every row -/

theorem takeSound_freshState (k : Straps) (s : State) : TakeSound (freshState k s) :=
  takeSound_of_takeInv (lookInv_freshState k s).2.1 (takeInv_freshState k s)

theorem rowLaw_takeGood {n : Nat} (hn : n ≤ 65000) : RowLaw (TakeGood n) TakeSound where
  kept hk h := h.of_takesKept hk
  muted := takeGood_enterMuted
  weak h := h.sound
  keptAfter := takeSound_of_takesKept
  fresh := takeSound_freshState
  engine := takeSound_resetEngine
  line := takeSound_countLine hn
  pulse withLine := takeSound_takeFramePulse withLine hn
  loss := takeSound_unlockByTime
  abort room := takeSound_takeAbort room
  load source m := takeSound_takeLoad source m
  clear source m := takeSound_takeClear source m
  selectOn source m := takeSound_takeSelectOn source m
  selectOff source m := takeSound_takeSelectOff source m
  mark _ _ h := takeSound_of_takesKept (takesKept_give _ _ _) (takeSound_markTake _ h.sound)
  note source m h := takeSound_takeDeskNote source m h.sound

/-! ### How old a take in flight can be (R46, R62, R94) -/

theorem fwd_eq_emod {D : Nat} (hD : 0 < D) (a b : Nat) : (fwd D a b : Int) = ((b : Int) - a) % D := by
  have ha := (Nat.mod_lt a hD).le
  rw [fwd, Int.natCast_emod, Nat.cast_sub (by omega), Nat.cast_add, Int.natCast_emod, Int.natCast_emod]
  simp [Int.sub_emod]

/-- From k frames before a to l frames after b there are at most as many frames more than from a to b. -/
theorem fwd_back_onward_le {D : Nat} (hD : 0 < D) (a b k l : Nat) :
    fwd D (back D a k) (onward D b l) ≤ k + fwd D a b + l := by
  have hback : (back D a k : Int) = ((a : Int) - k) % D := fwd_eq_emod hD k a
  have honward : (onward D b l : Int) = ((b : Int) + l) % D := by simp [onward]
  have hsum : (fwd D (back D a k) (onward D b l) : Int) = ((k + fwd D a b + l : Nat) : Int) % D := by
    rw [fwd_eq_emod hD, hback, honward]
    push_cast
    rw [fwd_eq_emod hD, ← Int.sub_emod, Int.add_emod, Int.add_emod (k : Int), Int.emod_emod, ← Int.add_emod (k : Int),
      ← Int.add_emod]
    congr 1
    ring
  have hnat : fwd D (back D a k) (onward D b l) = (k + fwd D a b + l) % D := by exact_mod_cast hsum
  exact hnat ▸ Nat.mod_le _ _

/-- A take rolls for at most 60 frames of pre-roll, 9000 of its cue and 60 of post-roll (R31, R33, R46). -/
theorem fwd_marksOf_le {p : Profile} {c : Cue} (h : CueGood p c) (hD : 0 < dayOf p) :
    fwd (dayOf p) (marksOf p c).punchIn (marksOf p c).punchOut ≤ 9120 := by
  obtain ⟨-, -, -, hpre, hpost, -, -, -, -, -, hlength⟩ := h
  have hroll := fwd_back_onward_le hD c.cueIn c.cueOut c.pre.toNat c.post.toNat
  simp only [marksOf]
  omega

/-- In the bounds of every run the takes in flight are young. -/
theorem takeGood_of_inv {s : State} (href : RefInv s) (hcue : CueInv s) (hlook : LookInv s) (hflight : FlightInv s)
    (htake : TakeInv s) : TakeGood 36479 s := by
  obtain ⟨hfew, hdistinct, hselected, -⟩ := hlook
  obtain ⟨hmarks, -, hrunning⟩ := hflight
  have hsound := takeSound_of_takeInv hdistinct htake
  refine ⟨hsound, hdistinct, hfew, fun j hj => ?_⟩
  have hf : j.flight ∈ s.flights := hsound.paired.mem_iff.mpr (List.mem_map_of_mem hj)
  rw [flights_eq] at hf
  obtain ⟨e, he, hje⟩ := List.mem_map.mp hf
  obtain ⟨hslot, hserial⟩ := Prod.mk.inj hje
  have hmem := (mem_running.mp he).1
  obtain ⟨-, hplace, hage⟩ := hrunning e he
  rw [hserial] at hage
  obtain ⟨c, hc⟩ : ∃ c, s.cueAt e.slot = some c := by
    have hsome := hselected e hmem
    cases hc : s.cueAt e.slot with
    | none => simp [hc] at hsome
    | some c => exact ⟨c, rfl⟩
  have hgood : CueGood s.straps.profile c := by simpa using hcue.2 _ (mem_of_cueAt hc)
  have hlong := fwd_marksOf_le hgood (Nat.zero_lt_of_lt href.1)
  have heq : e.marks = marksOf s.straps.profile c := by simpa [hc] using hmarks e hmem
  rw [← heq] at hlong
  have hage' : ageOf s.takes.serial j.serial ≤ 4 * fwd s.day e.marks.punchIn s.ref.position + 3 := by simpa using hage
  have hday : s.day = dayOf s.straps.profile := rfl
  rw [hday] at hplace hage'
  omega

/-- Settles O7, by the rows: what starts, ends, undoes and removes takes keeps log, journal and entries paired, and no
serial in the journal comes round again while its take is in flight. -/
theorem stepKeepsTakeBounds : Obligations.StepKeepsTakeBounds :=
  fun _ _ href hcue hlook hflight htake hstep => takeInv_of_takeSound
    ((rowLaw_takeGood (by decide)).step (takeGood_of_inv href hcue hlook hflight htake) hstep)

end Sys2Proof.Machine
end

/-! ## Messages in the order given (R124, R158 to R160): what an event sends, and what stays queued -/

section
namespace Sys2Proof.Machine

open Sys2Proof.Safety

/-! ### The queue in class order (R158) -/

/-- The queue stands in ascending class. -/
def State.queueSorted (s : State) : Prop := s.line.queue.Pairwise (fun a b => a.cls ≤ b.cls)

theorem sorted_insertTx {m : TxMsg} {q : List TxMsg} (h : q.Pairwise (fun a b => a.cls ≤ b.cls)) :
    (insertTx m q).Pairwise (fun a b => a.cls ≤ b.cls) := by
  induction q with
  | nil => exact List.pairwise_singleton _ _
  | cons x xs ih =>
    obtain ⟨hx, hxs⟩ := List.pairwise_cons.mp h
    unfold insertTx
    split
    · next hlt =>
      refine List.pairwise_cons.mpr ⟨fun y hy => ?_, h⟩
      rcases List.mem_cons.mp hy with rfl | hy
      · exact hlt.le
      · exact hlt.le.trans (hx y hy)
    · next hle =>
      refine List.pairwise_cons.mpr ⟨fun y hy => ?_, ih hxs⟩
      rcases mem_insertTx.mp hy with rfl | hy
      · exact Nat.le_of_not_lt hle
      · exact hx y hy

/-- A message joins behind those of its class, and the other classes are as they were. -/
theorem filter_insertTx {m : TxMsg} {q : List TxMsg} (h : q.Pairwise (fun a b => a.cls ≤ b.cls)) (c : Nat) :
    (insertTx m q).filter (fun x => x.cls == c) =
      q.filter (fun x => x.cls == c) ++ (if m.cls = c then [m] else []) := by
  induction q with
  | nil => by_cases hc : m.cls = c <;> simp [insertTx, hc]
  | cons x xs ih =>
    obtain ⟨hx, hxs⟩ := List.pairwise_cons.mp h
    unfold insertTx
    split
    · next hlt =>
      by_cases hc : m.cls = c
      · have hnone : (x :: xs).filter (fun x => x.cls == c) = [] :=
          List.filter_eq_nil_iff.mpr fun y hy => by
            have hle : x.cls ≤ y.cls := by
              rcases List.mem_cons.mp hy with rfl | hy
              · exact le_rfl
              · exact hx y hy
            simp only [beq_iff_eq]
            omega
        rw [List.filter_cons_of_pos (by simpa using hc), hnone, if_pos hc]
        rfl
      · rw [List.filter_cons_of_neg (by simpa using hc), if_neg hc, List.append_nil]
    · by_cases hc : x.cls = c <;> simp [hc, ih hxs]

/-! ### What an event sends -/

/-- These messages of class 0 are sent, in this order; the queue stays in order, and what was queued is queued still
unless a message has been dropped. -/
structure Sends (s t : State) (ms : List Message) : Prop where
  flags : flagsKept s t
  sorted : s.queueSorted → t.queueSorted
  sent : s.queueSorted → sentInOrder s t ms
  kept : ∀ x ∈ s.line.queue, x ∈ t.line.queue ∨ t.hasFlag .queueDrop = true

namespace Sends

/-- Nothing is sent where the queue is as it was. -/
theorem of_queue {s t : State} (hq : t.line.queue = s.line.queue) (hf : flagsKept s t) : Sends s t [] :=
  ⟨hf, fun h => by rwa [State.queueSorted, hq], fun _ => .inl (by simp [hq]), fun x hx => .inl (hq ▸ hx)⟩

theorem refl (s : State) : Sends s s [] := of_queue rfl (flagsKept_refl s)

theorem trans {s t u : State} {ms ns : List Message} (h : Sends s t ms) (k : Sends t u ns) : Sends s u (ms ++ ns) := by
  refine ⟨flagsKept_trans h.flags k.flags, fun hs => k.sorted (h.sorted hs), fun hs => ?_, fun x hx => ?_⟩
  · rcases k.sent (h.sorted hs) with hu | hu
    · rcases h.sent hs with ht | ht
      · exact .inl (by rw [hu, ht, List.map_append, List.append_assoc])
      · exact .inr (k.flags _ ht)
    · exact .inr hu
  · rcases h.kept x hx with ht | ht
    · exact k.kept x ht
    · exact .inr (k.flags _ ht)

theorem then_nothing {s t u : State} {ms : List Message} (h : Sends s t ms) (k : Sends t u []) : Sends s u ms := by
  simpa using h.trans k

theorem after_nothing {s t u : State} {ms : List Message} (h : Sends s t []) (k : Sends t u ms) : Sends s u ms := by
  simpa using h.trans k

/-- What each step of a list does not send, the whole list does not send. -/
theorem foldl {α : Type} {f : State → α → State} (h : ∀ s x, Sends s (f s x) []) (l : List α) (s : State) :
    Sends s (l.foldl f s) [] := by
  induction l generalizing s with
  | nil => exact refl s
  | cons x xs ih => exact (h s x).then_nothing (ih (f s x))

end Sends

/-- A message given is sent, where its class is 0 and it goes to all stations (R158 to R160). -/
theorem sends_give (dest : Addr) (m : Message) {ms : List Message} (s : State)
    (h : (if (classOf m).toNat = 0 then [newMessage (.fixed dest m) .internal] else []) =
      ms.map (fun m => newMessage (.fixed 0#4 m) .internal)) : Sends s (s.give dest m) ms := by
  have hflags : flagsKept s (s.give dest m) := (queueOnly_give dest m s).flags
  have hoffer := offerTx_cases (freshTx (.fixed dest m) .internal) s.line.queue
  unfold State.give State.giveInternal at *
  rcases hoffer with ⟨-, ho⟩ | ⟨-, -, ho⟩ | ⟨-, -, ho⟩ <;> simp only [ho] at hflags ⊢
  · refine ⟨hflags, fun hs => sorted_insertTx hs, fun hs => .inl ?_, fun x hx => .inl (mem_insertTx.mpr (.inr hx))⟩
    rw [← h]
    exact filter_insertTx hs 0
  · exact ⟨hflags, fun hs => sorted_insertTx (hs.sublist (List.dropLast_sublist _)), fun _ => .inr (by simp),
      fun _ _ => .inr (by simp)⟩
  · exact ⟨hflags, fun hs => hs, fun _ => .inr (by simp), fun _ _ => .inr (by simp)⟩

/-- A message given is queued, or one is dropped (R160). -/
theorem given_give (dest : Addr) (m : Message) (s : State) :
    newMessage (.fixed dest m) .internal ∈ (s.give dest m).line.queue ∨ (s.give dest m).hasFlag .queueDrop = true := by
  have hoffer := offerTx_cases (freshTx (.fixed dest m) .internal) s.line.queue
  unfold State.give State.giveInternal
  rcases hoffer with ⟨-, ho⟩ | ⟨-, -, ho⟩ | ⟨-, -, ho⟩ <;> simp only [ho]
  · exact .inl (mem_insertTx.mpr (.inl rfl))
  · exact .inr (by simp)
  · exact .inr (by simp)

/-- A message that has been given stays so. -/
theorem given_of_sends {s t : State} {ms : List Message} (h : Sends s t ms) {dest : Addr} {m : Message}
    (hs : given s dest m) : given t dest m := by
  rcases hs with hs | hs
  · exact h.kept _ hs
  · exact .inr (h.flags _ hs)

/-! ### Claims given back (R123) -/

/-- The claim of an entry, with its slot. -/
def Entry.held (e : Entry) : Nat × ClaimState × Option Byte := (e.slot, e.claim, e.claimNo)

/-- The RELEASE of one claim, where it is open. -/
theorem releasesOf_congr {reason : ReleaseReason} {s t : State} (htrack : ∀ slot, t.trackOf slot = s.trackOf slot)
    {es fs : List Entry} (hheld : fs.map Entry.held = es.map Entry.held) :
    releasesOf reason fs t = releasesOf reason es s := by
  have hread (u : State) (l : List Entry) : releasesOf reason l u = (l.map Entry.held).filterMap fun x =>
      match u.trackOf x.1, x.2.2 with
      | some track, some n =>
        if x.2.1 = .pending ∨ x.2.1 = .granted then some (.release { track := track, claimNo := n, reason := reason })
        else none
      | _, _ => none := by
    rw [List.filterMap_map]
    rfl
  rw [hread, hread, hheld]
  simp only [htrack]

theorem sends_updateEntry (slot : Nat) (f : Entry → Entry) (s : State) : Sends s (s.updateEntry slot f) [] :=
  .of_queue rfl (flagsKept_of_sticky rfl)

/-- A RELEASE goes out for an open claim, and for no other (R123). -/
theorem sends_releaseClaim (reason : ReleaseReason) (slot : Nat) (s : State) :
    Sends s (releaseClaim reason slot s) (releasesOf reason (s.entryOf slot).toList s) := by
  unfold releaseClaim
  rcases he : s.entryOf slot with _ | e
  · exact .refl s
  · have hopen : claimOpen e.claim = true ↔ e.claim = .pending ∨ e.claim = .granted := by simp [claimOpen]
    by_cases ho : claimOpen e.claim = true
    · simp only [ho, if_true, releaseEntry, State.releaseOf, Option.toList_some, releasesOf, List.filterMap_cons,
        List.filterMap_nil]
      rcases s.trackOf e.slot with _ | track
      · exact sends_updateEntry _ _ s
      · rcases e.claimNo with _ | n
        · exact sends_updateEntry _ _ s
        · simp only [hopen.mp ho, if_true]
          exact (sends_give 0#4 _ s (ms := [.release { track := track, claimNo := n, reason := reason }]) rfl).then_nothing
            (sends_updateEntry _ _ _)
    · have hnone : releasesOf reason [e] s = [] := by
        have hclosed := mt hopen.mpr ho
        simp only [releasesOf, List.filterMap_cons, List.filterMap_nil, if_neg hclosed]
        rcases s.trackOf e.slot with _ | track <;> rcases e.claimNo with _ | n <;> rfl
      simp only [ho, Option.toList_some, hnone]
      exact .refl s

/-- The entries of the other slots are as they were. -/
def othersKept (slot : Nat) (s t : State) : Prop :=
  t.entries.filter (fun e => e.slot != slot) = s.entries.filter (fun e => e.slot != slot)

theorem othersKept_updateEntry {slot : Nat} {f : Entry → Entry} (hf : ∀ e, (f e).slot = e.slot) (s : State) :
    othersKept slot s (s.updateEntry slot f) := by
  unfold othersKept
  rw [State.updateEntry_entries]
  induction s.entries with
  | nil => rfl
  | cons e es ih =>
    by_cases he : e.slot = slot
    · simpa [he, hf] using ih
    · simpa [he] using ih

theorem othersKept_of_entries {slot : Nat} {s t : State} (h : t.entries = s.entries) : othersKept slot s t := by
  rw [othersKept, h]

theorem othersKept_trans {slot : Nat} {s t u : State} (h : othersKept slot s t) (k : othersKept slot t u) :
    othersKept slot s u := Eq.trans k h

theorem othersKept_releaseClaim (reason : ReleaseReason) (slot : Nat) (s : State) :
    othersKept slot s (releaseClaim reason slot s) := by
  unfold releaseClaim
  split
  · next e he =>
    obtain rfl := slot_of_entryOf he
    have hreleased (u : State) := othersKept_updateEntry (slot := e.slot) (f := Entry.released) (fun _ => rfl) u
    split
    · unfold releaseEntry
      split
      · refine othersKept_trans (othersKept_of_entries ?_) (hreleased _)
        rw [(queueOnly_give _ _ s).state]
      · exact hreleased s
    · exact rfl
  · exact rfl

/-! ### Takes that are stopped (R103) -/

/-- What the stop of a slot's take touches beside the take unit and the table: the take of the slot's entry; and it
sends no message of class 0. -/
structure TakeStops (slot : Nat) (s t : State) : Prop where
  out : t.out = s.out
  serial : t.takes.serial = s.takes.serial
  held : t.entries.map Entry.held = s.entries.map Entry.held
  others : othersKept slot s t
  sends : Sends s t []

theorem takeStops_refl (slot : Nat) (s : State) : TakeStops slot s s := ⟨rfl, rfl, rfl, rfl, .refl s⟩

theorem map_held_update {slot : Nat} {f : Entry → Entry} (hf : ∀ e, (f e).held = e.held) (es : List Entry) :
    (es.map (fun e => if e.slot == slot then f e else e)).map Entry.held = es.map Entry.held := by
  rw [List.map_map]
  refine List.map_congr_left fun e _ => ?_
  show Entry.held (if e.slot == slot then f e else e) = e.held
  split
  · exact hf e
  · rfl

theorem sends_giveNote (serial : Word16) (s : State) : Sends s (giveNote serial s) [] := by
  unfold giveNote
  split
  · exact sends_give _ _ s rfl
  · exact .refl s

theorem takeStops_closeTake (result : TakeResult) (stop slot : Nat) (serial : Word16) (s : State) :
    TakeStops slot s (closeTake result stop slot serial s) := by
  have hq := (queueOnly_closeTake result stop slot serial s).state
  have hsends : Sends s (closedTake result stop slot serial s) [] := .of_queue rfl (flagsKept_of_sticky rfl)
  refine ⟨by rw [hq]; rfl, by rw [hq]; rfl, ?_, ?_, ?_⟩
  · rw [hq]
    exact map_held_update (f := fun e => { e with take := .ended }) (fun _ => rfl) _
  · refine othersKept_trans (t := closedTake result stop slot serial s) ?_ (othersKept_of_entries (by rw [hq]))
    exact othersKept_updateEntry (f := fun e => { e with take := .ended }) (fun _ => rfl) s
  · rw [closeTake_eq]
    exact (hsends.then_nothing (sends_giveNote _ _)).then_nothing (.of_queue rfl (flagsKept_setFlag _ _))

theorem takeStops_unwindTake (slot : Nat) (serial : Word16) (s : State) :
    TakeStops slot s (unwindTake slot serial s) := by
  rcases hj : s.takes.journal.find? (fun j => j.serial == serial) with _ | j
  · rw [unwindTake, hj]
    exact takeStops_refl slot s
  · rw [unwindTake_eq hj]
    exact ⟨rfl, rfl, map_held_update (f := fun e => { e with take := .ended, serial := none }) (fun _ => rfl) _,
      othersKept_updateEntry (f := fun e => { e with take := .ended, serial := none }) (fun _ => rfl) s,
      .of_queue rfl (flagsKept_of_sticky rfl)⟩

/-- An abort that leaves the claim to its cause (R103). -/
theorem takeStops_abortTake {cause : TakeCause} (hcause : causeReleases cause = false) (slot : Nat) (s : State) :
    TakeStops slot s (abortTake cause slot s) := by
  unfold abortTake
  split
  · next e he =>
    have hslot := slot_of_entryOf he
    split
    · rw [if_neg (by simp [hcause])]
      unfold stopTake
      rw [hslot]
      split
      · exact takeStops_closeTake _ _ _ _ s
      · exact takeStops_unwindTake _ _ s
    · exact takeStops_refl slot s
  · exact takeStops_refl slot s

/-! ### Entries that go, each giving its claim back (R67, R70, R124) -/

/-- The entry of a slot goes: its claim is given back, and the other entries and the slots' load fields are as they
were. -/
structure GivesBack (reason : ReleaseReason) (slot : Nat) (s t : State) : Prop where
  sends : Sends s t (releasesOf reason (s.entryOf slot).toList s)
  entries : t.entries = s.entries.filter (fun e => e.slot != slot)
  loaded : LoadedKept s t

theorem givesBack_release (reason : ReleaseReason) (slot : Nat) (s : State) :
    GivesBack reason slot s (removeEntry slot (releaseClaim reason slot s)) :=
  ⟨(sends_releaseClaim reason slot s).then_nothing (.of_queue rfl (flagsKept_of_sticky rfl)),
    othersKept_releaseClaim reason slot s,
    (loadedKept_releaseClaim reason slot s).trans (.of_tables (tablesKept_removeEntry _ _))⟩

theorem held_entryOf {s t : State} (h : t.entries.map Entry.held = s.entries.map Entry.held) (slot : Nat) :
    (t.entryOf slot).toList.map Entry.held = (s.entryOf slot).toList.map Entry.held := by
  have hread (u : State) : (u.entryOf slot).toList.map Entry.held =
      ((u.entries.map Entry.held).find? (fun x => x.1 == slot)).toList := by
    rw [List.find?_map, State.entryOf]
    cases hx : u.entries.find? (fun e => e.slot == slot) <;>
      simp [Function.comp_def, Entry.held, hx]
  rw [hread, hread, h]

theorem GivesBack.after_stop {reason : ReleaseReason} {slot : Nat} {s t u : State} (h : TakeStops slot s t)
    (hl : LoadedKept s t) (k : GivesBack reason slot t u) : GivesBack reason slot s u := by
  refine ⟨?_, k.entries.trans h.others, hl.trans k.loaded⟩
  rw [← releasesOf_congr hl.trackOf (held_entryOf h.held slot)]
  exact h.sends.after_nothing k.sends

theorem givesBack_deselectEntry (slot : Nat) (s : State) : GivesBack .evict slot s (deselectEntry slot s) :=
  .after_stop (takeStops_abortTake rfl slot s) (loadedKept_abortTake _ slot s) (givesBack_release .evict slot _)

section Folds

variable {reason : ReleaseReason} {f : State → Nat → State} (hf : ∀ u slot, GivesBack reason slot u (f u slot))
include hf

/-- The entries of a list of slots go, and no other. -/
theorem entries_givesBack (l : List Nat) (s : State) :
    (l.foldl f s).entries = s.entries.filter (fun e => decide (e.slot ∉ l)) := by
  induction l generalizing s with
  | nil => simp
  | cons slot l ih =>
    refine (ih _).trans ?_
    rw [(hf s slot).entries, List.filter_filter]
    exact List.filter_congr fun x _ => by simp [bne, Bool.beq_eq_decide_eq, Bool.and_comm]

/-- The claims of these entries are given back in their order (R124). -/
theorem sends_givesBack (l : List Entry) (hl : (l.map Entry.slot).Nodup) {s : State}
    (hs : ∀ e ∈ l, s.entryOf e.slot = some e) : Sends s ((l.map Entry.slot).foldl f s) (releasesOf reason l s) := by
  induction l generalizing s with
  | nil => exact .refl s
  | cons e l ih =>
    obtain ⟨he, hnd⟩ := List.nodup_cons.mp hl
    have hfirst := hf s e.slot
    have hrest : ∀ x ∈ l, (f s e.slot).entryOf x.slot = some x := fun x hx => by
      have hne : x.slot ≠ e.slot := ne_of_mem_of_not_mem (List.mem_map_of_mem hx) he
      rw [← hs x (List.mem_cons_of_mem _ hx), State.entryOf, hfirst.entries, List.find?_filter]
      refine congrArg (s.entries.find? ·) (funext fun y => ?_)
      by_cases hy : y.slot = x.slot <;> simp [hy, hne]
    have hmessages : releasesOf reason (e :: l) s =
        releasesOf reason (s.entryOf e.slot).toList s ++ releasesOf reason l (f s e.slot) := by
      rw [hs e List.mem_cons_self, releasesOf_congr hfirst.loaded.trackOf (rfl : l.map Entry.held = l.map Entry.held)]
      exact List.filterMap_append (l := [e])
    rw [hmessages]
    exact hfirst.sends.trans (ih hnd hrest)

end Folds

end Sys2Proof.Machine
end

/-! ## The ENGINE reset (R44, R70, R92, R112, R124, R126, R144, R190) -/

section
namespace Sys2Proof.Machine

open Sys2Proof.Safety

/-! ### Gates cut (R136, R144) -/

/-- The GATE CUT of one own track, where its gate is open (R136). -/
def cutOf (reason : GateReason) (i : Nat) (s : State) : Option Message :=
  ((s.tracks[i]?).bind Track.named).map (gateOf s i (.cut reason))

theorem sends_cutTrack (reason : GateReason) (i : Nat) (s : State) :
    Sends s (cutTrack reason i s) (cutOf reason i s).toList := by
  unfold cutTrack cutOf
  rcases s.tracks[i]? with _ | t
  · exact .refl s
  · dsimp only [Option.bind_some]
    rcases t.named with _ | r
    · exact .refl s
    · have hset : Sends s (s.setTrack i { named := none, table := withoutReservation r t.table }) [] :=
        .of_queue rfl (flagsKept_of_sticky rfl)
      exact (hset.after_nothing (sends_give _ _ _ (ms := [gateOf s i (.cut reason) r]) rfl)).then_nothing
        (.of_queue rfl (flagsKept_setFlag _ _))

/-- A cut touches its own track alone. -/
theorem tracks_cutTrack {i j : Nat} (h : j ≠ i) (reason : GateReason) (s : State) :
    (cutTrack reason i s).tracks[j]? = s.tracks[j]? := by
  unfold cutTrack
  split
  · split
    · rw [State.setFlag_tracks, giveGate, (queueOnly_give _ _ _).state]
      simp [h.symm]
    · rfl
  · rfl

theorem gateCut_cutTrack {i : Nat} {reason : GateReason} {s : State} (h : (cutOf reason i s).isSome = true) :
    (cutTrack reason i s).hasFlag .gateCut = true := by
  unfold cutTrack
  unfold cutOf at h
  rcases ht : s.tracks[i]? with _ | t
  · simp [ht] at h
  · rcases hn : t.named with _ | r
    · simp [ht, hn] at h
    · simp [hn]

theorem cutOf_cutTrack {i j : Nat} (h : j ≠ i) (reason : GateReason) (s : State) :
    cutOf reason j (cutTrack reason i s) = cutOf reason j s := by
  have hkept := recorderOnly_cutTrack reason i s
  unfold cutOf
  rw [tracks_cutTrack h]
  unfold gateOf
  rw [hkept.straps, hkept.ref]

/-- The open gates of these tracks are cut in their order, and GATE_CUT tells of it (R136). -/
theorem sends_cuts (reason : GateReason) (l : List Nat) (hl : l.Nodup) (s : State) :
    Sends s (l.foldl (fun t i => cutTrack reason i t) s) (l.filterMap (fun i => cutOf reason i s)) ∧
      ((∃ i ∈ l, (cutOf reason i s).isSome = true) →
        (l.foldl (fun t i => cutTrack reason i t) s).hasFlag .gateCut = true) := by
  induction l generalizing s with
  | nil => exact ⟨.refl s, by simp⟩
  | cons i l ih =>
    obtain ⟨hi, hnd⟩ := List.nodup_cons.mp hl
    obtain ⟨hsends, hflag⟩ := ih hnd (cutTrack reason i s)
    have hsame : ∀ j ∈ l, cutOf reason j (cutTrack reason i s) = cutOf reason j s :=
      fun j hj => cutOf_cutTrack (ne_of_mem_of_not_mem hj hi) reason s
    have hmessages : (i :: l).filterMap (fun i => cutOf reason i s) =
        (cutOf reason i s).toList ++ l.filterMap (fun j => cutOf reason j (cutTrack reason i s)) := by
      rw [List.filterMap_cons, List.filterMap_congr hsame]
      cases cutOf reason i s <;> rfl
    refine ⟨hmessages ▸ (sends_cutTrack reason i s).trans hsends, ?_⟩
    rintro ⟨j, hj, hcut⟩
    rcases List.mem_cons.mp hj with rfl | hj
    · exact hsends.flags _ (gateCut_cutTrack hcut)
    · exact hflag ⟨j, hj, by rw [hsame j hj, hcut]⟩

theorem sends_cutTracks (reason : GateReason) (s : State) :
    Sends s (cutTracks reason s) (ownPlaces.filterMap (fun i => cutOf reason i s)) :=
  (sends_cuts reason ownPlaces List.nodup_range s).1

theorem gateCut_cutTracks {reason : GateReason} {s : State} {i : Nat} (hi : i ∈ ownPlaces)
    (h : (cutOf reason i s).isSome = true) : (cutTracks reason s).hasFlag .gateCut = true :=
  (sends_cuts reason ownPlaces List.nodup_range s).2 ⟨i, hi, h⟩

/-- What is read of the elements with their places, by the places. -/
theorem filterMap_zipIdx {α β : Type} (f : α × Nat → Option β) (l : List α) :
    l.zipIdx.filterMap f = (List.range l.length).filterMap (fun i => (l[i]?).bind fun x => f (x, i)) := by
  induction l using List.reverseRecOn with
  | nil => rfl
  | append_singleton l x ih =>
    rw [List.zipIdx_append, List.filterMap_append, ih, List.length_append, List.length_singleton, List.range_succ,
      List.filterMap_append]
    congr 1
    · refine List.filterMap_congr fun i hi => ?_
      rw [List.getElem?_append_left (List.mem_range.mp hi)]
    · simp [List.filterMap_cons]

/-- With all eight tracks, the cuts are those of every open gate, in track order. -/
theorem cutsOf_eq (reason : GateReason) {s : State} (h : s.tracks.length = 8) :
    cutsOf reason (fun _ => true) s = ownPlaces.filterMap (fun i => cutOf reason i s) := by
  rw [cutsOf, filterMap_zipIdx, h]
  refine List.filterMap_congr fun i _ => ?_
  unfold cutOf
  rcases s.tracks[i]? with _ | t
  · rfl
  · rcases hn : t.named with _ | r <;> simp [hn]

/-! ### Entries made anew (R55, R56) -/

/-- An entry of a new pass: no mark taken, not stood down, no take begun (R56). -/
def Entry.isNew (e : Entry) : Prop := e.crossed = 0#9 ∧ e.stoodDown = false ∧ (e.take = .idle ∨ e.take = .late)

theorem isNew_freshEntry (p : Profile) (pos slot : Nat) (c : Cue) : (freshEntry p pos slot c).isNew := by
  refine ⟨rfl, rfl, ?_⟩
  simp only [freshEntry, freshTake]
  split
  · exact .inr rfl
  · exact .inl rfl

/-- A new entry joins the others, its claim made, and the cue outputs are not told. -/
theorem forall_createEntry {slot : Nat} {P : Entry → Prop} (hclaim : ∀ e f : Entry, e.unclaimed = f.unclaimed → P e → P f)
    (hfresh : ∀ p pos c, P (freshEntry p pos slot c)) {s : State} (h : ∀ e ∈ s.entries, P e) :
    ∀ e ∈ (createEntry slot s).entries, P e := by
  unfold createEntry
  split
  · next c _ =>
    intro e he
    have hkept := (takesKept_newClaim slot
      { s with entries := insertEntry (freshEntry s.straps.profile s.ref.position slot c) s.entries }).entries
    obtain ⟨x, hx, hxe⟩ := List.mem_map.mp (hkept ▸ List.mem_map_of_mem he)
    refine hclaim x e hxe ?_
    rcases List.mem_cons.mp ((insertEntry_perm _ _).mem_iff.mp hx) with rfl | hx
    · exact hfresh _ _ _
    · exact h x hx
  · exact h

theorem sends_newClaim (slot : Nat) (s : State) : Sends s (newClaim slot s) [] := by
  have hclaim (track : Byte) (c : Cue) (e : Entry) : Sends s (sendClaim track c e s) [] :=
    (Sends.of_queue (s := s) (t := State.updateEntry e.slot (Entry.claimed (s.claimCounter + 1#8))
      { s with claimCounter := s.claimCounter + 1#8 }) rfl (flagsKept_of_sticky rfl)).then_nothing (sends_give _ _ _ rfl)
  unfold newClaim
  split
  · split
    · split
      · exact hclaim _ _ _
      · exact sends_updateEntry _ _ s
    · exact .refl s
  · exact .refl s

theorem sends_createEntry (slot : Nat) (s : State) : Sends s (createEntry slot s) [] := by
  unfold createEntry
  split
  · next c _ =>
    have hjoined : Sends s
        { s with entries := insertEntry (freshEntry s.straps.profile s.ref.position slot c) s.entries } [] :=
      .of_queue rfl (flagsKept_of_sticky rfl)
    exact hjoined.then_nothing (sends_newClaim slot _)
  · exact .refl s

theorem out_newClaim (slot : Nat) (s : State) : (newClaim slot s).out = s.out := by
  have hclaim (track : Byte) (c : Cue) (e : Entry) : (sendClaim track c e s).out = s.out := by
    rw [sendClaim, (queueOnly_give _ _ _).state]
    rfl
  unfold newClaim
  split
  · split
    · split
      · exact hclaim _ _ _
      · rfl
    · rfl
  · rfl

theorem out_createEntry (slot : Nat) (s : State) : (createEntry slot s).out = s.out := by
  unfold createEntry
  split
  · exact out_newClaim slot _
  · rfl

/-- A recomputation of an empty lookahead makes new entries and nothing else (R53, R55). -/
structure MadeAnew (s t : State) : Prop where
  isNew : ∀ e ∈ t.entries, e.isNew
  out : t.out = s.out
  sends : Sends s t []

theorem madeAnew_creations (l : List Nat) {s : State} (h : ∀ e ∈ s.entries, e.isNew) :
    MadeAnew s (l.foldl (fun t slot => createEntry slot t) s) := by
  induction l generalizing s with
  | nil => exact ⟨h, rfl, .refl s⟩
  | cons slot l ih =>
    have hclaim (e f : Entry) (hef : e.unclaimed = f.unclaimed) (he : e.isNew) : f.isNew := by
      have hread (x : Entry) : x.isNew ↔ x.unclaimed.isNew := Iff.rfl
      rw [hread, ← hef, ← hread]
      exact he
    have hrest := ih (forall_createEntry hclaim (fun p pos c => isNew_freshEntry p pos slot c) h)
    exact ⟨hrest.isNew, hrest.out.trans (out_createEntry slot s), (sends_createEntry slot s).then_nothing hrest.sends⟩

theorem madeAnew_recompute {s : State} (h : s.entries = []) : MadeAnew s (recompute s) := by
  unfold recompute
  split
  · have hkeys : refreshKeys s = s := by
      have hnone : rekeyed s.day s.ref.position s.entries = s.entries := by rw [h]; rfl
      rw [refreshKeys, hnone]
    rw [reform, hkeys, h]
    exact madeAnew_creations _ (by simp [h])
  · exact ⟨by simp [h], rfl, .refl s⟩

/-! ### The blocks emptied (R70, R92, R112, R126, R144) -/

/-- The stop of every take leaves the claims and the cue outputs, and sends nothing of class 0. -/
theorem abortTakes_engine (s : State) : (abortTakes .engine s).out = s.out ∧
    (abortTakes .engine s).takes.serial = s.takes.serial ∧
    (abortTakes .engine s).entries.map Entry.held = s.entries.map Entry.held ∧ Sends s (abortTakes .engine s) [] := by
  have hall (l : List Nat) (u : State) : (l.foldl (fun t slot => abortTake .engine slot t) u).out = u.out ∧
      (l.foldl (fun t slot => abortTake .engine slot t) u).takes.serial = u.takes.serial ∧
      (l.foldl (fun t slot => abortTake .engine slot t) u).entries.map Entry.held = u.entries.map Entry.held ∧
      Sends u (l.foldl (fun t slot => abortTake .engine slot t) u) [] := by
    induction l generalizing u with
    | nil => exact ⟨rfl, rfl, rfl, .refl u⟩
    | cons slot l ih =>
      have hone := takeStops_abortTake (cause := .engine) rfl slot u
      obtain ⟨hout, hserial, hheld, hsends⟩ := ih (abortTake .engine slot u)
      exact ⟨hout.trans hone.out, hserial.trans hone.serial, hheld.trans hone.held, hone.sends.then_nothing hsends⟩
  exact hall _ s

theorem slots_of_held {s t : State} (h : t.entries.map Entry.held = s.entries.map Entry.held) :
    t.entries.map Entry.slot = s.entries.map Entry.slot := by
  have hread (l : List Entry) : l.map Entry.slot = (l.map Entry.held).map Prod.fst := by
    rw [List.map_map]
    rfl
  rw [hread, h, ← hread]

/-- Every entry goes. -/
theorem entries_emptyForEngine (s : State) : (emptyForEngine s).entries = [] := by
  refine (entries_givesBack (fun u slot => givesBack_release .reset slot u) _ _).trans ?_
  refine List.filter_eq_nil_iff.mpr fun e he => ?_
  simpa using ⟨e, he, rfl⟩

/-- A RELEASE RESET goes out for every open claim, in entry order (R124). -/
theorem sends_emptyForEngine {s : State} (h : s.slotsDistinct) :
    Sends s (emptyForEngine s) (releasesOf .reset s.entries s) := by
  obtain ⟨-, -, hheld, hsends⟩ := abortTakes_engine s
  have hdistinct : (abortTakes .engine s).slotsDistinct := by
    rw [State.slotsDistinct, slots_of_held hheld]
    exact h
  have hback := sends_givesBack (fun u slot => givesBack_release .reset slot u) (abortTakes .engine s).entries hdistinct
    (fun _ he => entryOf_of_mem hdistinct he)
  rw [releasesOf_congr (loadedKept_abortTakes .engine s).trackOf hheld] at hback
  exact hsends.after_nothing hback

/-- Entries that go leave the gate view, the sweep and the flash as they were. -/
theorem gateView_emptyForEngine (s : State) : (emptyForEngine s).out.gateView = s.out.gateView := by
  have hremove (l : List Nat) (u : State) :
      (l.foldl (fun t slot => removeEntry slot (releaseClaim .reset slot t)) u).out.gateView = u.out.gateView := by
    induction l generalizing u with
    | nil => rfl
    | cons slot l ih =>
      have hrelease : (releaseClaim .reset slot u).out = u.out := by
        unfold releaseClaim
        split
        · split
          · unfold releaseEntry
            split
            · rw [State.updateEntry_out, (queueOnly_give _ _ u).state]
            · rfl
          · rfl
        · rfl
      have hone : (removeEntry slot (releaseClaim .reset slot u)).out.gateView = u.out.gateView := by
        show (releaseClaim .reset slot u).out.gateView = u.out.gateView
        rw [hrelease]
      exact (ih _).trans hone
  exact (hremove _ _).trans (by rw [(abortTakes_engine s).1])

theorem serial_emptyForEngine (s : State) : (emptyForEngine s).takes.serial = s.takes.serial := by
  have hkept : TablesKept (abortTakes .engine s) (emptyForEngine s) :=
    .foldl (fun t slot => (takesKept_releaseClaim .reset slot t).toTablesKept.trans (tablesKept_removeEntry slot _)) _ _
  rw [hkept.takes, (abortTakes_engine s).2.1]

/-- The sweep bar, the flash, the beeps and the keyed columns are off (R92). -/
def Outputs.idle (o : Outputs) : Prop :=
  o.sweep = false ∧ o.sweepCounter = 0 ∧ o.flash = false ∧ o.beeps = [] ∧ o.keyed = []

/-- The judgement of the outputs turns none of them on. -/
theorem idle_settle {s : State} (h : s.out.idle) :
    s.settle.out.idle ∧ s.settle.out.beep = false ∧ s.settle.out.gateView = s.out.gateView := by
  obtain ⟨hsweep, hcounter, hflash, hbeeps, hkeyed⟩ := h
  have hredraw : s.redraw.out.idle ∧ s.redraw.out.gateView = s.out.gateView := by
    unfold State.redraw
    split
    · split <;> exact ⟨⟨hsweep, hcounter, hflash, hbeeps, hkeyed⟩, rfl⟩
    · exact ⟨⟨hsweep, hcounter, rfl, hbeeps, hkeyed⟩, rfl⟩
  refine ⟨hredraw.1, ?_, hredraw.2⟩
  have hnone := hredraw.1.2.2.2.1
  show s.redraw.beepLevel = false
  simp [State.beepLevel, hnone]

/-- The judgement of the outputs sends nothing. -/
theorem sends_settle (s : State) : Sends s s.settle [] := by
  refine .of_queue ?_ (boothOnly_settle s).flags
  unfold State.settle State.redraw
  split
  · split <;> rfl
  · rfl

/-- The station after an ENGINE reset and its answer, by what a report may touch (R188, R190). -/
theorem answered_of_keptByReports {s u : State} (h : keptByReports s u) (href : u.ref = s.ref)
    (hserial : u.takes.serial = s.takes.serial) : u.answerWith .ok [] = { s with
      cues := u.cues, entries := u.entries, out := u.out, claimCounter := u.claimCounter, tracks := u.tracks
      takes := { s.takes with log := u.takes.log, journal := u.takes.journal }
      line := { s.line with queue := u.line.queue }
      port := { s.port with
        transaction := .answering, answer := some { status := .ok, body := [] }, sticky := u.port.sticky } } := by
  have htakes : ({ u.takes with deskLog := s.takes.deskLog } : TakeUnit) =
      { s.takes with log := u.takes.log, journal := u.takes.journal } := by
    dsimp only
    rw [← hserial]
  unfold keptByReports at h
  rw [htakes, href] at h
  exact congrArg (State.answerWith .ok []) h

/-- Nothing is left of the lookahead, and the outputs and the tracks are idle (R70, R92, R144). -/
theorem engineEmptied_idle (s : State) : (engineEmptied s).entries = [] ∧ (engineEmptied s).out.idle ∧
    (engineEmptied s).out.gateView = s.out.gateView ∧ (engineEmptied s).tracks = emptyTracks := by
  have htracks := recorderOnly_engineTracks (emptyForEngine s)
  refine ⟨?_, ⟨rfl, rfl, rfl, rfl, rfl⟩, ?_, rfl⟩
  · unfold engineEmptied
    rw [htracks.entries, entries_emptyForEngine]
  · unfold engineEmptied engineOutputs
    rw [htracks.out, gateView_emptyForEngine]

theorem reportOnly_engineEmptied (s : State) : ReportOnly s (engineEmptied s) :=
  ((ReportOnly.of_boothOnly (boothOnly_emptyForEngine s)).trans (.of_recorderOnly (recorderOnly_engineTracks _))).trans
    (.of_boothOnly (boothOnly_out _ _))

theorem boothOnly_resetEngine (s : State) : BoothOnly (engineEmptied s) (resetEngine s) :=
  (boothOnly_recompute _).trans (boothOnly_settle _)

/-- The issued serials stay issued. -/
theorem serial_resetEngine (s : State) : (resetEngine s).takes.serial = s.takes.serial := by
  have hlater : TablesKept (emptyForEngine s) (resetEngine s) :=
    (((TakesKept.of_recorderOnly (recorderOnly_engineTracks _)).trans (takesKept_out _ _)).toTablesKept.trans
      (tablesKept_recompute _)).trans (takesKept_settle _).toTablesKept
  rw [hlater.takes, serial_emptyForEngine]

theorem isNew_resetEngine (s : State) : ∀ e ∈ (resetEngine s).entries, e.isNew := by
  intro e he
  obtain ⟨x, hx, hxe⟩ := List.mem_map.mp ((takesKept_settle _).entries ▸ List.mem_map_of_mem he)
  have hnew := (madeAnew_recompute (engineEmptied_idle s).1).isNew x hx
  have hread (y : Entry) : y.isNew ↔ y.unclaimed.isNew := Iff.rfl
  rw [hread, ← hxe, ← hread]
  exact hnew

theorem sends_engineBlocks (s : State) : Sends (cutTracks .reset (emptyForEngine s)) (engineEmptied s) [] := by
  unfold engineEmptied engineTracks
  generalize cutTracks .reset (emptyForEngine s) = u
  exact .of_queue rfl (flagsKept_of_sticky rfl)

/-- The RELEASE messages go out, then the GATE messages; what is made anew only claims. -/
theorem sends_resetEngine {s : State} (htracks : s.tracks.length = 8) (h : s.slotsDistinct) :
    Sends s (resetEngine s) (releasesOf .reset s.entries s ++ cutsOf .reset (fun _ => true) s) := by
  have hbooth := boothOnly_emptyForEngine s
  have hcuts := sends_cutTracks .reset (emptyForEngine s)
  have hsame : ownPlaces.filterMap (fun i => cutOf .reset i (emptyForEngine s)) = cutsOf .reset (fun _ => true) s := by
    rw [cutsOf_eq .reset htracks]
    unfold cutOf gateOf
    rw [hbooth.tracks, hbooth.straps, hbooth.ref]
  have hanew := (madeAnew_recompute (engineEmptied_idle s).1).sends
  have hsettle : Sends (recompute (engineEmptied s)) (resetEngine s) [] :=
    sends_settle _
  rw [hsame] at hcuts
  have hemptied := ((sends_emptyForEngine h).trans hcuts).then_nothing (sends_engineBlocks s)
  exact (hemptied.then_nothing hanew).then_nothing hsettle

/-- An open gate that is cut sets GATE_CUT (R136). -/
theorem gateCut_resetEngine {s : State} (htracks : s.tracks.length = 8)
    (h : s.tracks.any (fun x => x.named.isSome) = true) : (resetEngine s).hasFlag .gateCut = true := by
  obtain ⟨x, hx, hnamed⟩ := List.any_eq_true.mp h
  obtain ⟨i, hi⟩ := List.mem_iff_getElem?.mp hx
  have hlt : i ∈ ownPlaces := List.mem_range.mpr (htracks ▸ (List.getElem?_eq_some_iff.mp hi).1)
  have hcut : (cutOf .reset i (emptyForEngine s)).isSome = true := by
    unfold cutOf
    rw [(boothOnly_emptyForEngine s).tracks, hi]
    simpa using hnamed
  exact (boothOnly_resetEngine s).flags _ ((sends_engineBlocks s).flags _ (gateCut_cutTracks hlt hcut))

theorem idle_resetEngine (s : State) : (resetEngine s).out.idle ∧ (resetEngine s).out.beep = false ∧
    (resetEngine s).out.gateView = s.out.gateView := by
  obtain ⟨hempty, hidle, hview, -⟩ := engineEmptied_idle s
  have hout := (madeAnew_recompute hempty).out
  rw [← hout] at hidle hview
  rw [← hview]
  exact idle_settle hidle

/-- Settles O28: the takes are stopped, the entries go with their claims, the gates are cut, and the lookahead is made
anew from nothing. -/
theorem engineResetKeepsIdentityAndEmptiesWork : Obligations.EngineResetKeepsIdentityAndEmptiesWork := by
  intro s htracks
  have hexec : exec .resetEngine s = .next ((resetEngine s).answerWith .ok []) := rfl
  have hidle := idle_resetEngine s
  have hreport := (reportOnly_engineEmptied s).trans (.of_boothOnly (boothOnly_resetEngine s))
  have href := (referenceKept_resetEngine s).ref
  have hserial := serial_resetEngine s
  have hloaded := loadedKept_resetEngine s
  have hnew := isNew_resetEngine s
  have htable : (resetEngine s).tracks = emptyTracks :=
    (boothOnly_resetEngine s).tracks.trans (engineEmptied_idle s).2.2.2
  have hcut := gateCut_resetEngine htracks.1
  have hsent := fun hlook : LookInv s => sends_resetEngine htracks.1 hlook.2.1
  generalize resetEngine s = u at *
  obtain ⟨⟨hsweep, hcounter, hflash, hbeeps, hkeyed⟩, hbeep, hview⟩ := hidle
  refine ⟨u.answerWith .ok [], hexec, answered_of_keptByReports hreport.kept href hserial, hloaded.images,
    hloaded.selected, fun x hx => ?_, hnew, hsweep, hcounter, hflash, hbeeps, hbeep, hkeyed, hview, hreport.flags, hcut,
    fun hlook hline => (hsent hlook).sent hline.2.1⟩
  have hx' : x ∈ u.tracks := hx
  rw [htable] at hx'
  rw [List.eq_of_mem_replicate hx']
  exact ⟨rfl, rfl⟩

end Sys2Proof.Machine
end

/-! ## The entry of a deselected slot (R67, R103 to R106): what becomes of its take, and of everything else -/

section
namespace Sys2Proof.Machine

open Sys2Proof.Safety

/-! ### One step of SELECT off -/

/-- An entry whose take runs, with the journal record of that take and the cue of its slot. -/
structure Aboard (e : Entry) (j : JournalRecord) (c : Cue) (s : State) : Prop where
  entry : e ∈ s.entries
  running : e.take = .running
  serial : e.serial = some j.serial
  journal : j ∈ s.takes.journal
  cue : s.cueAt e.slot = some c

namespace Aboard

variable {e : Entry} {j : JournalRecord} {c : Cue} {s : State}

theorem flight (h : Aboard e j c s) : (e.slot, some j.serial) ∈ s.flights :=
  List.mem_filterMap.mpr ⟨e, h.entry, by rw [Entry.flight_of_running h.running, h.serial]⟩

theorem slot (h : Aboard e j c s) (hs : TakeSound s) (hd : s.slotsDistinct) : j.slot = e.slot :=
  (journal_slot_iff hs hd h.flight h.journal).mp rfl

end Aboard

/-- The claim given back and the entry removed, after its take has been stopped, leave table and takes. -/
theorem tablesKept_deselectEntry (slot : Nat) (s : State) :
    TablesKept (abortTake .deselect slot s) (deselectEntry slot s) :=
  (takesKept_releaseClaim _ _ _).toTablesKept.trans (tablesKept_removeEntry _ _)

theorem serial_deselectEntry (slot : Nat) (s : State) : (deselectEntry slot s).takes.serial = s.takes.serial := by
  rw [(tablesKept_deselectEntry slot s).takes]
  exact (takeStops_abortTake rfl slot s).serial

/-- What the abort of a slot's take makes of table and take unit: it is closed ABORTED after its cue-in mark, and
undone before it (R104, R105). -/
inductive Deselected (slot : Nat) (s t : State) : Prop where
  | idle (hcues : t.cues = s.cues) (htakes : t.takes = s.takes) (hnone : ∀ x ∈ s.flights, x.1 ≠ slot)
  | closed (n : Word16) (hflight : (slot, some n) ∈ s.flights)
      (hcues : t.cues = s.cues.modify slot (Option.map fun c => { c with lastResult := some .aborted }))
      (htakes : t.takes = s.takes.closed .aborted s.ref.position n)
  | undone (j : JournalRecord) (hj : j ∈ s.takes.journal) (hslot : j.slot = slot)
      (hcues : t.cues = s.cues.modify slot
        (Option.map fun c => { c with lastResult := j.lastResult, takeCount := j.takeCount }))
      (htakes : t.takes = s.takes.unwound j)

theorem deselected {s : State} (h : TakeSound s) (hs : s.slotsDistinct) (slot : Nat) :
    Deselected slot s (deselectEntry slot s) := by
  have hlater := tablesKept_deselectEntry slot s
  rcases flight_cases h hs slot with ⟨e, n, he, hslot, hr, hn, hf⟩ | ⟨hnone, hno⟩
  · have habort : abortTake .deselect slot s = stopTake e n s := by
      rw [abortTake_of_running he hr hn]
      rfl
    rw [habort] at hlater
    by_cases hcross : e.isCrossed .cueIn = true
    · have hstop : stopTake e n s = closeTake .aborted s.ref.position slot n s := by rw [stopTake, if_pos hcross, hslot]
      have hclosed := TakesKept.of_queueOnly (queueOnly_closeTake .aborted s.ref.position slot n s)
      rw [hstop] at hlater
      exact .closed n hf (hlater.cues.trans hclosed.cues) (hlater.takes.trans hclosed.takes)
    · obtain ⟨j, hj, hfind, hjslot, -⟩ := journal_find h hf
      have hstop : stopTake e n s = unwindTake slot n s := by rw [stopTake, if_neg hcross, hslot]
      rw [hstop, unwindTake_eq hfind] at hlater
      exact .undone j hj hjslot hlater.cues hlater.takes
  · rw [abortTake_of_idle hno] at hlater
    exact .idle hlater.cues hlater.takes hnone

/-- A table with one slot written reads alike in the others. -/
theorem cueAt_of_modify {slot other : Nat} (h : other ≠ slot) {f : Option Cue → Option Cue} {s t : State}
    (ht : t.cues = s.cues.modify slot f) : t.cueAt other = s.cueAt other := by
  rw [State.cueAt, ht, List.getElem?_modify, State.cueAt]
  simp [h.symm]

theorem cueAt_of_modify_same {slot : Nat} {f : Cue → Cue} {s t : State} {c : Cue} (hc : s.cueAt slot = some c)
    (ht : t.cues = s.cues.modify slot (Option.map f)) : t.cueAt slot = some (f c) := by
  rw [State.cueAt, Option.join_eq_some_iff] at hc
  rw [State.cueAt, ht, List.getElem?_modify_eq, hc]
  rfl

/-- The cues of the other slots stay as they are, with or without sound takes. -/
theorem cueAt_deselectEntry {slot other : Nat} (h : other ≠ slot) (s : State) :
    (deselectEntry slot s).cueAt other = s.cueAt other := by
  rw [(tablesKept_deselectEntry slot s).cueAt]
  unfold abortTake
  split
  · next e he =>
    have hslot := slot_of_entryOf he
    split
    · next n _ _ =>
      rw [if_neg (by simp [causeReleases])]
      unfold stopTake
      split
      · have hclosed := TakesKept.of_queueOnly (queueOnly_closeTake .aborted s.ref.position e.slot n s)
        rw [hclosed.cueAt]
        exact cueAt_of_modify (hslot ▸ h) rfl
      · rcases hj : s.takes.journal.find? (fun j => j.serial == n) with _ | j
        · rw [unwindTake, hj]
        · rw [unwindTake_eq hj]
          exact cueAt_of_modify (hslot ▸ h) rfl
    · rfl
  · rfl

/-- Where no take of the slot runs the step leaves table and takes. -/
theorem tablesKept_deselect_idle {slot : Nat} {s : State} (h : ∀ e, s.entryOf slot = some e → e.take ≠ .running) :
    TablesKept s (deselectEntry slot s) := by
  have hlater := tablesKept_deselectEntry slot s
  rwa [abortTake_of_idle h] at hlater

/-! ### The records of the log -/

/-- A record stays as it is where its take is in flight in no entry of the slot. -/
theorem record_kept {slot : Nat} {s t : State} (h : TakeSound s) (hd : Deselected slot s t)
    {r : LogRecord} (hr : r ∈ s.takes.log) (hother : ∀ j ∈ s.takes.journal, j.slot = slot → j.serial ≠ r.serial) :
    r ∈ t.takes.log := by
  cases hd with
  | idle _ htakes => exact htakes ▸ hr
  | closed n hflight _ htakes =>
    obtain ⟨j, hj, -, hslot, hn⟩ := journal_find h hflight
    have hne : r.serial ≠ n := fun e => hother j hj hslot (hn.trans e.symm)
    rw [htakes]
    exact List.mem_map.mpr ⟨r, hr, LogRecord.closed_of_ne hne⟩
  | undone j hj hslot _ htakes =>
    rw [htakes]
    refine (unwindLog_perm s.takes.serial j s.takes.log).mem_iff.mpr (List.mem_append_right _ ?_)
    have hne : r.serial ≠ j.serial := (hother j hj hslot).symm
    exact List.mem_filter.mpr ⟨hr, by simpa using hne⟩

/-- A record that is not in flight stays. -/
theorem record_ended_kept {slot : Nat} {s t : State} (h : TakeSound s) (hd : Deselected slot s t)
    {r : LogRecord} (hr : r ∈ s.takes.log) (hended : r.result ≠ .inFlight) : r ∈ t.takes.log :=
  record_kept h hd hr fun j hj _ e => hended ((h.unit.inFlight r hr).mpr ⟨j, hj, e⟩)

/-- The serials of the log and of the displaced records. -/
def TakeUnit.serials (u : TakeUnit) : List Word16 := u.log.map LogRecord.serial ++ displacedSerials u.journal

/-- No step brings a serial back. -/
theorem serials_subset {slot : Nat} {s t : State} (hd : Deselected slot s t) : t.takes.serials ⊆ s.takes.serials := by
  cases hd with
  | idle _ htakes => rw [htakes]; exact List.Subset.refl _
  | closed n _ _ htakes =>
    have hlog : t.takes.log.map LogRecord.serial = s.takes.log.map LogRecord.serial := by
      rw [htakes]
      simp [TakeUnit.closed]
    have hjournal : t.takes.journal.Sublist s.takes.journal := by
      rw [htakes]
      exact List.filter_sublist
    unfold TakeUnit.serials
    rw [hlog]
    exact ((List.Sublist.refl _).append (hjournal.filterMap _)).subset
  | undone j hj _ _ htakes =>
    intro n hn
    rw [htakes] at hn
    rcases List.mem_append.mp hn with hn | hn
    · obtain ⟨r, hr, rfl⟩ := List.mem_map.mp hn
      rcases List.mem_append.mp ((unwindLog_perm s.takes.serial j s.takes.log).mem_iff.mp hr) with hr | hr
      · exact List.mem_append_right _ (mem_displacedSerials.mpr ⟨j, hj, r, Option.mem_toList.mp hr, rfl⟩)
      · exact List.mem_append_left _ (List.mem_map_of_mem (List.mem_filter.mp hr).1)
    · obtain ⟨i, hi, hdisplaced⟩ := mem_displacedSerials.mp hn
      exact List.mem_append_right _ (mem_displacedSerials.mpr ⟨i, (List.mem_filter.mp hi).1, hdisplaced⟩)

/-- An undone take leaves no record of its serial. -/
theorem serial_gone {u : TakeUnit} (h : UnitSound u) {j : JournalRecord} (hj : j ∈ u.journal) :
    j.serial ∉ (u.unwound j).serials := by
  obtain ⟨r, hr, hrj⟩ := h.logged j hj
  have hlogged : j.serial ∈ u.log.map LogRecord.serial := hrj ▸ List.mem_map_of_mem hr
  have hapart : j.serial ∉ displacedSerials u.journal := fun hd =>
    (List.nodup_append.mp h.serials).2.2 _ hlogged _ hd rfl
  intro hn
  rcases List.mem_append.mp hn with hn | hn
  · obtain ⟨x, hx, hxj⟩ := List.mem_map.mp hn
    rcases List.mem_append.mp ((unwindLog_perm u.serial j u.log).mem_iff.mp hx) with hx | hx
    · exact hapart (mem_displacedSerials.mpr ⟨j, hj, x, Option.mem_toList.mp hx, hxj⟩)
    · have hne := (List.mem_filter.mp hx).2
      simp [hxj] at hne
  · obtain ⟨i, hi, hdisplaced⟩ := mem_displacedSerials.mp hn
    exact hapart (mem_displacedSerials.mpr ⟨i, (List.mem_filter.mp hi).1, hdisplaced⟩)

/-- A record is found by its serial. -/
theorem recordOf_of_mem {s : State} (h : UnitSound s.takes) {r : LogRecord} (hr : r ∈ s.takes.log) :
    s.recordOf r.serial = some r := by
  unfold State.recordOf
  rcases hfind : s.takes.log.find? (fun x => x.serial == r.serial) with _ | x
  · have hne := List.find?_eq_none.mp hfind r hr
    simp at hne
  · have hx : x.serial = r.serial := by simpa using List.find?_some hfind
    rw [hfind, h.eq_of_serial (List.mem_of_find?_eq_some hfind) hr hx]

/-! ### The take of the entry itself -/

/-- A take that runs is found by its slot. -/
theorem abortTake_of_aboard {e : Entry} {j : JournalRecord} {c : Cue} {s : State} (h : Aboard e j c s)
    (hs : s.slotsDistinct) : abortTake .deselect e.slot s = stopTake e j.serial s := by
  rw [abortTake_of_running (entryOf_of_mem hs h.entry) h.running h.serial]
  rfl

/-- After its cue-in mark the take is kept ABORTED, with TAKE_END and its TAKE_NOTE (R104). -/
theorem kept_deselectEntry {e : Entry} {j : JournalRecord} {c : Cue} {s : State} (h : Aboard e j c s) (ht : TakeSound s)
    (hs : s.slotsDistinct) (hcross : e.isCrossed .cueIn = true) :
    (deselectEntry e.slot s).cueAt e.slot = some { c with lastResult := some .aborted } ∧
      (deselectEntry e.slot s).hasFlag .takeEnd = true ∧
      ∀ r ∈ s.takes.log, r.serial = j.serial →
        { r with result := .aborted, stop := some s.ref.position } ∈ (deselectEntry e.slot s).takes.log ∧
        given (deselectEntry e.slot s) 0#4
          (.takeNote (noteOf { r with result := .aborted, stop := some s.ref.position })) := by
  have habort : abortTake .deselect e.slot s = closeTake .aborted s.ref.position e.slot j.serial s := by
    rw [abortTake_of_aboard h hs, stopTake, if_pos hcross]
  have hclosed := TakesKept.of_queueOnly (queueOnly_closeTake .aborted s.ref.position e.slot j.serial s)
  have hlater := tablesKept_deselectEntry e.slot s
  have hsends : Sends (abortTake .deselect e.slot s) (deselectEntry e.slot s) _ :=
    (givesBack_release .evict e.slot _).sends
  rw [habort] at hlater hsends
  refine ⟨?_, ?_, fun r hr hrj => ?_⟩
  · rw [hlater.cueAt, hclosed.cueAt]
    exact cueAt_of_modify_same (f := fun c => { c with lastResult := some .aborted }) h.cue rfl
  · refine hsends.flags _ ?_
    rw [closeTake_eq]
    simp
  · have hrecord : r.closed .aborted s.ref.position j.serial =
        { r with result := .aborted, stop := some s.ref.position } := by simp [LogRecord.closed, hrj]
    have hmem : { r with result := .aborted, stop := some s.ref.position } ∈
        (closedTake .aborted s.ref.position e.slot j.serial s).takes.log := hrecord ▸ List.mem_map_of_mem hr
    refine ⟨by rw [hlater.takes, hclosed.takes]; exact hmem, given_of_sends hsends ?_⟩
    have hunit := unitSound_closed ht.unit (result := .aborted) (by decide) s.ref.position j.serial
    have hfound : (closedTake .aborted s.ref.position e.slot j.serial s).recordOf j.serial =
        some { r with result := .aborted, stop := some s.ref.position } := hrj ▸ recordOf_of_mem hunit hmem
    rw [closeTake_eq, giveNote, hfound]
    rcases given_give 0#4 (.takeNote (noteOf { r with result := .aborted, stop := some s.ref.position }))
      (closedTake .aborted s.ref.position e.slot j.serial s) with hq | hf
    · exact .inl hq
    · exact .inr (flagsKept_setFlag _ _ _ hf)

/-- Before its cue-in mark the take is undone (R105). -/
theorem undone_deselectEntry {e : Entry} {j : JournalRecord} {c : Cue} {s : State} (h : Aboard e j c s) (ht : TakeSound s)
    (hs : s.slotsDistinct) (hcross : e.isCrossed .cueIn = false) :
    (deselectEntry e.slot s).cueAt e.slot = some { c with lastResult := j.lastResult, takeCount := j.takeCount } ∧
      j.serial ∉ (deselectEntry e.slot s).takes.serials ∧
      ∀ r, j.displaced = some r → r ∈ (deselectEntry e.slot s).takes.log := by
  obtain ⟨i, hi, hfind, -, hij⟩ := journal_find ht h.flight
  obtain rfl := ht.unit.journal_eq_of_serial hi h.journal hij
  have hlater := tablesKept_deselectEntry e.slot s
  rw [abortTake_of_aboard h hs, stopTake, if_neg (by simp [hcross]), unwindTake_eq hfind] at hlater
  refine ⟨?_, ?_, fun r hr => ?_⟩
  · rw [hlater.cueAt]
    exact cueAt_of_modify_same (f := fun c => { c with lastResult := i.lastResult, takeCount := i.takeCount }) h.cue rfl
  · rw [hlater.takes]
    exact serial_gone ht.unit hi
  · rw [hlater.takes]
    exact (unwindLog_perm s.takes.serial i s.takes.log).mem_iff.mpr (List.mem_append_left _ (by simp [hr]))

end Sys2Proof.Machine
end

/-! ## CLEAR and SELECT (R25, R36 to R39, R52, R67, R103 to R106, R124) -/

section
namespace Sys2Proof.Machine

open Sys2Proof.Safety

/-! ### Ranges (R36) -/

theorem rangeOf_of_le {m : RangeMsg} (h : m.first.toNat ≤ min m.last.toNat 127) :
    rangeOf m = some (m.first.toNat, min m.last.toNat 127) := if_pos h

theorem rangeOf_of_lt {m : RangeMsg} (h : min m.last.toNat 127 < m.first.toNat) : rangeOf m = none :=
  if_neg (Nat.not_le.mpr h)

/-- A slot of the range reads as changed, and every other as it was. -/
theorem cueAt_changeRange (range : Nat × Nat) {f : Option Cue → Option Cue} (hf : f none = none) (s : State) (slot : Nat) :
    (s.changeRange range f).cueAt slot =
      if range.1 ≤ slot ∧ slot ≤ range.2 then f (s.cueAt slot) else s.cueAt slot := by
  unfold State.cueAt State.changeRange
  rw [mapRange_getElem?, Nat.zero_add]
  rcases s.cues[slot]? with _ | c <;> by_cases hr : range.1 ≤ slot ∧ slot ≤ range.2 <;> simp [inRange, hr, hf]

/-- What the change of a slot does not touch reads alike in the whole table. -/
theorem map_mapRange {α : Type} {range : Nat × Nat} {f : Option Cue → Option Cue} {g : Option Cue → α}
    (h : ∀ c, g (f c) = g c) (n : Nat) (cs : List (Option Cue)) : (mapRange range f n cs).map g = cs.map g := by
  induction cs generalizing n with
  | nil => rfl
  | cons c cs ih =>
    rw [mapRange, List.map_cons, ih, List.map_cons]
    split
    · rw [h]
    · rfl

theorem boothOnly_changeRange (range : Nat × Nat) (f : Option Cue → Option Cue) (s : State) :
    BoothOnly s (s.changeRange range f) := ⟨rfl, flagsKept_of_sticky rfl⟩

/-- A range that is changed, with its REPLY: the table is written, and no more than its change entails follows. -/
theorem tableChanged_changeRange (range : Nat × Nat) (f : Option Cue → Option Cue) (dest : Addr) (r : ReplyMsg)
    (s : State) {t : State} (ht : t = tableChanged (giveReply dest r ((judged s).changeRange range f))) :
    t.cues = ((judged s).changeRange range f).cues ∧ keptByTable s t t.cues s.takes ∧ flagsKept s t ∧
      t = State.settle (recompute (State.give dest (.reply r) { judged s with cues := t.cues })) := by
  have hkept : TablesKept ((judged s).changeRange range f) t :=
    ht ▸ (takesKept_give _ _ _).toTablesKept.trans (tablesKept_tableChanged _)
  have hbooth : BoothOnly (judged s) t :=
    ht ▸ ((boothOnly_changeRange range f _).trans (boothOnly_give _ _ _)).trans (boothOnly_tableChanged _)
  refine ⟨hkept.cues, keptByTable_of_boothOnly hbooth rfl hkept.takes, hbooth.flags, ?_⟩
  rw [hkept.cues]
  exact ht

/-! ### Every entry of the range goes (R39, R67) -/

section Folds

variable {P : State → Prop} {l : List Nat}

/-- What each step keeps of sound takes, the whole SELECT off keeps. -/
theorem foldl_deselect
    (hstep : ∀ v, TakeSound v → v.slotsDistinct → P v → ∀ slot ∈ l, P (deselectEntry slot v)) {s : State}
    (h : TakeSound s) (hs : s.slotsDistinct) (hP : P s) : P (l.foldl (fun t slot => deselectEntry slot t) s) := by
  induction l generalizing s with
  | nil => exact hP
  | cons slot l ih =>
    have hfirst := landed_deselectEntry slot h hs
    exact ih (fun v hv hd hp x hx => hstep v hv hd hp x (List.mem_cons_of_mem _ hx)) hfirst.sound (hfirst.distinct hs)
      (hstep s h hs hP slot List.mem_cons_self)

/-- What each step keeps, the whole SELECT off keeps. -/
theorem foldl_deselect_any (hstep : ∀ v, P v → ∀ slot ∈ l, P (deselectEntry slot v)) {s : State} (hP : P s) :
    P (l.foldl (fun t slot => deselectEntry slot t) s) := by
  induction l generalizing s with
  | nil => exact hP
  | cons slot l ih =>
    exact ih (fun v hv x hx => hstep v hv x (List.mem_cons_of_mem _ hx)) (hstep s hP slot List.mem_cons_self)

end Folds

theorem boothOnly_deselectEntries (l : List Nat) (s : State) :
    BoothOnly s (l.foldl (fun t slot => deselectEntry slot t) s) :=
  .foldl (fun t slot => boothOnly_deselectEntry slot t) l s

/-- A take in flight in a slot of the list is kept ABORTED after its cue-in mark, with its TAKE_NOTE (R104). -/
structure KeptAborted (e : Entry) (j : JournalRecord) (c : Cue) (s t : State) : Prop where
  cue : t.cueAt e.slot = some { c with lastResult := some .aborted }
  takeEnd : t.hasFlag .takeEnd = true
  record : ∀ r ∈ s.takes.log, r.serial = j.serial →
    { r with result := .aborted, stop := some s.ref.position } ∈ t.takes.log ∧
      given t 0#4 (.takeNote (noteOf { r with result := .aborted, stop := some s.ref.position }))

/-- A take in flight in a slot of the list is undone before its cue-in mark (R105). -/
structure Undone (e : Entry) (j : JournalRecord) (c : Cue) (t : State) : Prop where
  cue : t.cueAt e.slot = some { c with lastResult := j.lastResult, takeCount := j.takeCount }
  gone : j.serial ∉ t.takes.serials
  back : ∀ r, j.displaced = some r → r ∈ t.takes.log

section Taken

variable {e : Entry} {j : JournalRecord} {c : Cue} {s : State} {l : List Nat}

/-- The entries of other slots go without touching the take. -/
theorem aboard_foldl (he : e.slot ∉ l) (h : TakeSound s) (hs : s.slotsDistinct) (hab : Aboard e j c s) :
    Aboard e j c (l.foldl (fun t slot => deselectEntry slot t) s) ∧
      ∀ r ∈ s.takes.log, r.serial = j.serial → r ∈ (l.foldl (fun t slot => deselectEntry slot t) s).takes.log := by
  refine foldl_deselect (P := fun v => Aboard e j c v ∧ ∀ r ∈ s.takes.log, r.serial = j.serial → r ∈ v.takes.log)
    (fun v hv hd ⟨hold, hlog⟩ slot hslot => ⟨⟨?entry, hold.running, hold.serial, ?journal, ?cue⟩, fun r hr hrj => ?record⟩)
    h hs ⟨hab, fun r hr _ => hr⟩
  all_goals have hne : e.slot ≠ slot := (ne_of_mem_of_not_mem hslot he).symm
  case entry =>
    rw [(givesBack_deselectEntry slot v).entries]
    exact List.mem_filter.mpr ⟨hold.entry, by simpa using hne⟩
  case journal =>
    rw [(landed_deselectEntry slot hv hd).journal]
    exact List.mem_filter.mpr ⟨hold.journal, by simpa [hold.slot hv hd] using hne⟩
  case cue => rw [cueAt_deselectEntry hne, hold.cue]
  case record =>
    refine record_kept hv (deselected hv hd slot) (hlog r hr hrj) fun i hi hislot hir => hne ?_
    rw [← hold.slot hv hd, ← hislot, hv.unit.journal_eq_of_serial hi hold.journal (hir.trans hrj)]

/-- An ended record stays through it all. -/
theorem record_ended_foldl {r : LogRecord} (h : TakeSound s) (hs : s.slotsDistinct) (hr : r ∈ s.takes.log)
    (hended : r.result ≠ .inFlight) : r ∈ (l.foldl (fun t slot => deselectEntry slot t) s).takes.log :=
  foldl_deselect (P := fun v => r ∈ v.takes.log)
    (fun _ hv hd hold slot _ => record_ended_kept hv (deselected hv hd slot) hold hended) h hs hr

theorem cueAt_foldl {slot : Nat} (hslot : slot ∉ l) :
    (l.foldl (fun t slot => deselectEntry slot t) s).cueAt slot = s.cueAt slot :=
  foldl_deselect_any (P := fun v => v.cueAt slot = s.cueAt slot)
    (fun v hold _ hx => (cueAt_deselectEntry (ne_of_mem_of_not_mem hx hslot).symm v).trans hold) rfl

/-- What the entry of a slot leaves of its take stays while the entries of other slots go. -/
theorem keptAborted_foldl {t : State} (he : e.slot ∉ l) (h : TakeSound t) (hs : t.slotsDistinct)
    (hk : KeptAborted e j c s t) : KeptAborted e j c s (l.foldl (fun t slot => deselectEntry slot t) t) := by
  refine ⟨(cueAt_foldl he).trans hk.cue, (boothOnly_deselectEntries l t).flags _ hk.takeEnd, fun r hr hrj => ?_⟩
  obtain ⟨hmem, hgiven⟩ := hk.record r hr hrj
  exact ⟨record_ended_foldl h hs hmem (by simp), foldl_deselect_any
    (P := fun v => given v 0#4 (.takeNote (noteOf { r with result := .aborted, stop := some s.ref.position })))
    (fun v hold slot _ => given_of_sends (givesBack_deselectEntry slot v).sends hold) hgiven⟩

theorem undone_foldl {t : State} (he : e.slot ∉ l) (h : TakeSound t) (hs : t.slotsDistinct)
    (hended : ∀ r, j.displaced = some r → r.result ≠ .inFlight) (hk : Undone e j c t) :
    Undone e j c (l.foldl (fun t slot => deselectEntry slot t) t) := by
  refine ⟨(cueAt_foldl he).trans hk.cue, ?_, fun r hr => record_ended_foldl h hs (hk.back r hr) (hended r hr)⟩
  exact foldl_deselect (P := fun v => j.serial ∉ v.takes.serials)
    (fun v hv hd hold slot _ hn => hold (serials_subset (deselected hv hd slot) hn)) h hs hk.gone

/-- The take of a slot of the list is stopped when its turn comes (R103). -/
theorem stopped_foldl (hl : l.Nodup) (he : e.slot ∈ l) (h : TakeSound s) (hs : s.slotsDistinct) (hab : Aboard e j c s) :
    (e.isCrossed .cueIn = true → KeptAborted e j c s (l.foldl (fun t slot => deselectEntry slot t) s)) ∧
      (e.isCrossed .cueIn = false → Undone e j c (l.foldl (fun t slot => deselectEntry slot t) s)) := by
  obtain ⟨before, after, rfl⟩ := List.append_of_mem he
  obtain ⟨-, hnd, hapart⟩ := List.nodup_append.mp hl
  have hbefore : e.slot ∉ before := fun hm => hapart _ hm _ List.mem_cons_self rfl
  have hafter : e.slot ∉ after := (List.nodup_cons.mp hnd).1
  obtain ⟨hfirst, hlog⟩ := aboard_foldl hbefore h hs hab
  have hlanded := Landed.foldl (f := fun t slot => deselectEntry slot t) (fun _ slot => landed_deselectEntry slot) before h hs
  have hposition := (boothOnly_deselectEntries before s).ref
  rw [List.foldl_append, List.foldl_cons]
  generalize before.foldl (fun t slot => deselectEntry slot t) s = v at *
  have hdistinct := hlanded.distinct hs
  have hstep := landed_deselectEntry e.slot hlanded.sound hdistinct
  refine ⟨fun hcross => ?kept, fun hcross => ?undone⟩
  case kept =>
    obtain ⟨hcue, hend, hrecord⟩ := kept_deselectEntry hfirst hlanded.sound hdistinct hcross
    rw [hposition] at hrecord
    exact keptAborted_foldl hafter hstep.sound (hstep.distinct hdistinct)
      ⟨hcue, hend, fun r hr hrj => hrecord r (hlog r hr hrj) hrj⟩
  case undone =>
    obtain ⟨hcue, hgone, hback⟩ := undone_deselectEntry hfirst hlanded.sound hdistinct hcross
    exact undone_foldl hafter hstep.sound (hstep.distinct hdistinct)
      (fun r hr => (h.unit.displaced j hab.journal r hr).2) ⟨hcue, hgone, hback⟩

end Taken

/-- Without a take in flight in it, a slot of the list keeps its cue. -/
theorem cueAt_foldl_idle {slot : Nat} (l : List Nat) {s : State} (h : ∀ e ∈ s.entries, e.slot = slot → e.take ≠ .running) :
    (l.foldl (fun t slot => deselectEntry slot t) s).cueAt slot = s.cueAt slot := by
  refine (foldl_deselect_any (l := l) (s := s)
    (P := fun v => v.cueAt slot = s.cueAt slot ∧ ∀ e ∈ v.entries, e.slot = slot → e.take ≠ .running)
    (fun v ⟨hcue, hidle⟩ x _ => ⟨?_, fun e he => ?_⟩) ⟨rfl, h⟩).1
  · by_cases hx : slot = x
    · subst hx
      refine ((tablesKept_deselect_idle fun e he => ?_).cueAt slot).trans hcue
      exact hidle e (List.mem_of_find?_eq_some he) (slot_of_entryOf he)
    · exact (cueAt_deselectEntry hx v).trans hcue
  · rw [(givesBack_deselectEntry x v).entries] at he
    exact hidle e (List.mem_filter.mp he).1

theorem serial_foldl (l : List Nat) (s : State) :
    (l.foldl (fun t slot => deselectEntry slot t) s).takes.serial = s.takes.serial :=
  foldl_deselect_any (P := fun v => v.takes.serial = s.takes.serial)
    (fun v hold slot _ => (serial_deselectEntry slot v).trans hold) rfl

/-! ### The slots of a recomputed lookahead (R50, R53) -/

/-- The slot has an entry, or a LOADED and selected cue. -/
def State.reaches (s : State) (slot : Nat) : Prop :=
  slot ∈ s.entries.map Entry.slot ∨ (s.cueAt slot).any Cue.selected = true

theorem insertKeyed_perm (x : Int × Nat) (l : List (Int × Nat)) : (insertKeyed x l).Perm (x :: l) := by
  induction l with
  | nil => exact .refl _
  | cons y ys ih =>
    unfold insertKeyed
    split
    · exact .refl _
    · exact (ih.cons y).trans (.swap x y ys)

theorem selected_of_candidateKey {slot : Nat} {s : State} {k : Int} (h : s.candidateKey slot = some k) :
    (s.cueAt slot).any Cue.selected = true := by
  unfold State.candidateKey at h
  split at h
  · next c hc =>
    split at h
    · next hsel =>
      rw [hc]
      exact (Bool.and_eq_true_iff.mp hsel).1
    · cases h
  · cases h

/-- What each step keeps of all the elements gathered, the whole list keeps. -/
theorem forall_foldl {α β : Type} {P : β → Prop} {g : List β → α → List β}
    (hg : ∀ acc x, (∀ y ∈ acc, P y) → ∀ y ∈ g acc x, P y) (l : List α) {acc : List β} (h : ∀ y ∈ acc, P y) :
    ∀ y ∈ l.foldl g acc, P y := by
  induction l generalizing acc with
  | nil => exact h
  | cons x l ih => exact ih (hg acc x h)

/-- A candidate is LOADED and selected (R50). -/
theorem selected_of_candidate {slot : Nat} {s : State} (h : slot ∈ s.candidates) :
    (s.cueAt slot).any Cue.selected = true := by
  obtain ⟨x, hx, rfl⟩ := List.mem_map.mp h
  refine forall_foldl (P := fun x : Int × Nat => (s.cueAt x.2).any Cue.selected = true) (fun acc slot hacc y hy => ?_) _
    (acc := []) (by simp) x hx
  split at hy
  · next k hk =>
    rcases List.mem_cons.mp ((insertKeyed_perm _ _).mem_iff.mp hy) with rfl | hy
    · exact selected_of_candidateKey hk
    · exact hacc y hy
  · exact hacc y hy

theorem slots_createEntry {slot n : Nat} {s : State} (h : n ∈ (createEntry slot s).entries.map Entry.slot) :
    n = slot ∨ n ∈ s.entries.map Entry.slot := by
  unfold createEntry at h
  split at h
  · rw [slots_of_unclaimed (takesKept_newClaim slot _).entries] at h
    simpa [freshEntry] using ((insertEntry_perm _ _).map Entry.slot).mem_iff.mp h
  · exact .inr h

/-- Every entry of a recomputed lookahead is one that there was, or of a selected cue (R53 to R55). -/
theorem reaches_recompute {s : State} {e : Entry} (he : e ∈ (recompute s).entries) : s.reaches e.slot := by
  have hcreate (l : List Nat) (u : State) {n : Nat}
      (hn : n ∈ (l.foldl (fun t slot => createEntry slot t) u).entries.map Entry.slot) :
      n ∈ l ∨ n ∈ u.entries.map Entry.slot := by
    induction l generalizing u with
    | nil => exact .inr hn
    | cons slot l ih =>
      rcases ih _ hn with hl | hu
      · exact .inl (List.mem_cons_of_mem _ hl)
      · rcases slots_createEntry hu with rfl | hu
        · exact .inl List.mem_cons_self
        · exact .inr hu
  have hkeys : (refreshKeys s).entries.map Entry.slot ⊆ s.entries.map Entry.slot := fun n hn => by
    have hperm := (rekeyed_perm s.day s.ref.position s.entries).map Entry.slot
    rw [List.map_map] at hperm
    exact hperm.mem_iff.mp hn
  unfold recompute at he
  split at he
  · rcases hcreate _ _ (List.mem_map_of_mem he) with hnew | hold
    · rcases List.mem_append.mp (List.mem_filter.mp hnew).1 with hrun | hcandidate
      · obtain ⟨x, hx, hxe⟩ := List.mem_map.mp hrun
        exact .inl (hkeys (hxe ▸ List.mem_map_of_mem (mem_running.mp hx).1))
      · exact .inr (selected_of_candidate (s := refreshKeys s) (List.mem_filter.mp (List.mem_of_mem_take hcandidate)).1)
    · rw [entries_givesBack (f := fun u slot => evict slot u) (fun u slot => givesBack_release .evict slot u)] at hold
      obtain ⟨x, hx, hxe⟩ := List.mem_map.mp hold
      exact .inl (hkeys (hxe ▸ List.mem_map_of_mem (List.mem_filter.mp hx).1))
  · exact .inl (List.mem_map_of_mem he)

end Sys2Proof.Machine
end

/-! ## CLEAR, SELECT on and SELECT off as commands (R25, R36 to R39, R52, R67) -/

section
namespace Sys2Proof.Machine

open Sys2Proof.Safety

/-! ### SELECT off, from the frame to the entries gone -/

theorem LoadedKept.selectedAt {s t : State} (h : LoadedKept s t) (slot : Nat) :
    (t.cueAt slot).map Cue.selected = (s.cueAt slot).map Cue.selected := by
  have hread (c : Option Cue) : c.map Cue.selected = (c.map Cue.untaken).map Cue.selected := by cases c <;> rfl
  rw [hread, h.cueAt, ← hread]

/-- The station at a SELECT off with the flags of the range cleared. -/
def unselected (a b : Nat) (s : State) : State := (judged s).changeRange (a, b) (selectSlot false)

/-- The station at a SELECT off, once the entries of the range have gone and before its REPLY. -/
def deselectedStation (a b : Nat) (s : State) : State := deselectEntries (a, b) (unselected a b s)

section SelectOff

variable (a b : Nat) (s : State)

theorem cueAt_unselected (slot : Nat) : (unselected a b s).cueAt slot =
    if a ≤ slot ∧ slot ≤ b then (s.cueAt slot).map (fun c => { c with selected := false }) else s.cueAt slot :=
  cueAt_changeRange (a, b) (f := selectSlot false) rfl (judged s) slot

theorem loadedKept_deselectedStation : LoadedKept (unselected a b s) (deselectedStation a b s) :=
  loadedKept_deselectEntries (a, b) _

theorem boothOnly_deselectedStation : BoothOnly (judged s) (deselectedStation a b s) :=
  (boothOnly_changeRange (a, b) _ _).trans (boothOnly_deselectEntries _ _)

/-- Exactly the entries of the range have gone. -/
theorem entries_deselectedStation : (deselectedStation a b s).entries =
    s.entries.filter (fun e => !decide (a ≤ e.slot ∧ e.slot ≤ b)) := by
  refine (entries_givesBack (fun u slot => givesBack_deselectEntry slot u) _ _).trans (List.filter_congr fun e he => ?_)
  have hslot : e.slot ∈ s.entries.map Entry.slot := List.mem_map_of_mem he
  rw [← decide_not, decide_eq_decide, List.mem_filter]
  exact not_congr ⟨fun h => of_decide_eq_true h.2, fun h => ⟨hslot, decide_eq_true h⟩⟩

theorem takes_deselectedStation : (deselectedStation a b s).takes =
    { s.takes with log := (deselectedStation a b s).takes.log, journal := (deselectedStation a b s).takes.journal } := by
  have hserial : (deselectedStation a b s).takes.serial = s.takes.serial := serial_foldl _ (unselected a b s)
  have hdesk : (deselectedStation a b s).takes.deskLog = s.takes.deskLog := (boothOnly_deselectedStation a b s).deskLog
  dsimp only
  rw [← hserial, ← hdesk]

theorem images_deselectedStation : (deselectedStation a b s).cues.map imageOf = s.cues.map imageOf :=
  (loadedKept_deselectedStation a b s).images.trans (map_mapRange (fun c => by cases c <;> rfl) 0 s.cues)

theorem selected_deselectedStation (slot : Nat) : ((deselectedStation a b s).cueAt slot).map Cue.selected =
    if a ≤ slot ∧ slot ≤ b then (s.cueAt slot).map (fun _ => false) else (s.cueAt slot).map Cue.selected := by
  rw [(loadedKept_deselectedStation a b s).selectedAt, cueAt_unselected]
  split
  · rw [Option.map_map]
    rfl
  · rfl

theorem cueAt_deselectedStation_outside {slot : Nat} (h : ¬(a ≤ slot ∧ slot ≤ b)) :
    (deselectedStation a b s).cueAt slot = s.cueAt slot := by
  refine (cueAt_foldl fun hm => h ?_).trans ((cueAt_unselected a b s slot).trans (if_neg h))
  exact of_decide_eq_true (List.mem_filter.mp hm).2

theorem cueAt_deselectedStation_idle {slot : Nat} (h : a ≤ slot ∧ slot ≤ b)
    (hidle : s.running.any (fun e => e.slot == slot) = false) :
    (deselectedStation a b s).cueAt slot = (s.cueAt slot).map (fun c => { c with selected := false }) := by
  refine (cueAt_foldl_idle _ fun e he hslot hrun => ?_).trans ((cueAt_unselected a b s slot).trans (if_pos h))
  have hnone := List.any_eq_false.mp hidle e (mem_running.mpr ⟨he, hrun⟩)
  simp [hslot] at hnone

end SelectOff

section SelectOffSound

variable {s : State} (a b : Nat)

/-- A RELEASE EVICT goes out for every open claim of the range, in entry order (R124). -/
theorem sends_deselectedStation (hs : s.slotsDistinct) : Sends s (deselectedStation a b s)
    (releasesOf .evict (s.entries.filter (fun e => decide (a ≤ e.slot ∧ e.slot ≤ b))) s) := by
  have hjudged : Sends s (unselected a b s) [] := .of_queue rfl (flagsKept_of_sticky rfl)
  have hslots : (s.entries.map Entry.slot).filter (inRange (a, b)) =
      (s.entries.filter (fun e => decide (a ≤ e.slot ∧ e.slot ≤ b))).map Entry.slot := List.filter_map
  have htrack (slot : Nat) : (unselected a b s).trackOf slot = s.trackOf slot := by
    unfold State.trackOf
    rw [cueAt_unselected]
    split
    · cases s.cueAt slot <;> rfl
    · rfl
  have hback := sends_givesBack (s := unselected a b s) (fun u slot => givesBack_deselectEntry slot u)
    (s.entries.filter (fun e => decide (a ≤ e.slot ∧ e.slot ≤ b))) (hs.sublist (List.filter_sublist.map _))
    (fun e he => entryOf_of_mem (s := unselected a b s) hs (List.mem_filter.mp he).1)
  rw [← hslots, releasesOf_congr htrack rfl] at hback
  exact hjudged.after_nothing hback

theorem takeSound_unselected (h : TakeSound s) : TakeSound (unselected a b s) :=
  takeSound_select (a, b) false (takeSound_of_takesKept (takesKept_withReceiver .awaiting s) h)

/-- The journal records of the range are emptied (R106). -/
theorem journal_deselectedStation (h : TakeSound s) (hs : s.slotsDistinct) : (deselectedStation a b s).takes.journal =
    s.takes.journal.filter (fun j => !decide (a ≤ j.slot ∧ j.slot ≤ b)) := by
  refine (landed_deselectEntries (a, b) (takeSound_unselected a b h) hs).journal.trans (List.filter_congr fun j hj => ?_)
  have hslot : j.slot ∈ s.entries.map Entry.slot := by
    have hf : j.flight ∈ s.flights := h.paired.mem_iff.mpr (List.mem_map_of_mem hj)
    obtain ⟨e, he, hfe⟩ := List.mem_filterMap.mp hf
    exact List.mem_map.mpr ⟨e, he, (Entry.slot_of_flight hfe).symm⟩
  rw [← decide_not, decide_eq_decide, List.mem_filter]
  exact not_congr ⟨fun h => of_decide_eq_true h.2, fun h => ⟨hslot, decide_eq_true h⟩⟩

/-- Each take in flight in the range is stopped (R103). -/
theorem stopped_deselectedStation (h : TakeSound s) (hs : s.slotsDistinct) {e : Entry} {j : JournalRecord} {c : Cue}
    (he : e ∈ s.running) (hrange : a ≤ e.slot ∧ e.slot ≤ b) (hserial : e.serial = some j.serial)
    (hj : j ∈ s.takes.journal) (hc : s.cueAt e.slot = some c) :
    (e.isCrossed .cueIn = true → KeptAborted e j { c with selected := false } s (deselectedStation a b s)) ∧
      (e.isCrossed .cueIn = false → Undone e j { c with selected := false } (deselectedStation a b s)) := by
  obtain ⟨hmem, hrun⟩ := mem_running.mp he
  have haboard : Aboard e j { c with selected := false } (unselected a b s) :=
    ⟨hmem, hrun, hserial, hj, by rw [cueAt_unselected, if_pos hrange, hc]; rfl⟩
  have hl : ((s.entries.map Entry.slot).filter (inRange (a, b))).Nodup := hs.filter _
  have hel : e.slot ∈ (s.entries.map Entry.slot).filter (inRange (a, b)) :=
    List.mem_filter.mpr ⟨List.mem_map_of_mem hmem, decide_eq_true hrange⟩
  obtain ⟨hkept, hundone⟩ := stopped_foldl hl hel (takeSound_unselected a b h) hs haboard
  exact ⟨fun hcross => let k := hkept hcross; ⟨k.cue, k.takeEnd, k.record⟩, hundone⟩

end SelectOffSound

/-! ### SELECT off, after its REPLY -/

/-- Of the range no entry comes back: its cues are not selected (R39, R50). -/
theorem outside_tableChanged {a b : Nat} {s t : State} {dest : Addr} {r : ReplyMsg}
    (ht : t = tableChanged (giveReply dest r (deselectedStation a b s))) :
    ∀ e ∈ t.entries, ¬(a ≤ e.slot ∧ e.slot ≤ b) := by
  intro e he hrange
  subst ht
  have hslot : e.slot ∈ (recompute (giveReply dest r (deselectedStation a b s))).entries.map Entry.slot :=
    slots_of_unclaimed (takesKept_settle _).entries ▸ List.mem_map_of_mem he
  obtain ⟨x, hx, hxe⟩ := List.mem_map.mp hslot
  have hgiven := takesKept_give dest (.reply r) (deselectedStation a b s)
  rcases hxe ▸ reaches_recompute hx with hold | hselected
  · rw [giveReply, slots_of_unclaimed hgiven.entries, entries_deselectedStation] at hold
    obtain ⟨y, hy, hye⟩ := List.mem_map.mp hold
    have hout := (List.mem_filter.mp hy).2
    simp [hye, hrange] at hout
  · rw [giveReply, hgiven.cueAt] at hselected
    have hflag := selected_deselectedStation a b s e.slot
    rw [if_pos hrange] at hflag
    cases hc : (deselectedStation a b s).cueAt e.slot with
    | none => simp [hc] at hselected
    | some c =>
      rw [hc] at hselected hflag
      cases hs : s.cueAt e.slot <;> simp_all

/-- What a stopped take leaves, read of the station after the REPLY (R102 to R105). -/
theorem takeStopped_of_stopped {s u t : State} {e : Entry} {j : JournalRecord} {c : Cue}
    (hkept : e.isCrossed .cueIn = true → KeptAborted e j c s u) (hundone : e.isCrossed .cueIn = false → Undone e j c u)
    (hu : u.ref = s.ref) (hlater : TablesKept u t) (ht : BoothOnly u t) : takeStopped s t e j c ∧ abortNoted s u e j := by
  have hposition : t.ref.position = s.ref.position := by rw [ht.ref, hu]
  refine ⟨⟨fun hcross => ?_, fun hcross => ?_⟩, fun hcross r hr hrj => ?_⟩
  · obtain ⟨hcue, hend, hrecord⟩ := hkept hcross
    refine ⟨(hlater.cueAt _).trans hcue, ht.flags _ hend, fun r hr hrj => ?_⟩
    rw [hposition, hlater.takes]
    exact (hrecord r hr hrj).1
  · obtain ⟨hcue, hgone, hback⟩ := hundone hcross
    rw [hlater.takes]
    exact ⟨(hlater.cueAt _).trans hcue,
      fun r hr hrj => hgone (List.mem_append_left _ (hrj ▸ List.mem_map_of_mem hr)), hback⟩
  · rw [hu]
    exact ((hkept hcross).record r hr hrj).2

/-! ### The three commands -/

theorem exec_clear {h : FrameHead} {m : RangeMsg} {s : State} (hh : handed h (.clear m) s)
    (hr : s.straps.role = .booth) (hb : h.broadcast = false) :
    exec (.clear h m) s = .next (takeClear h.source m (judged s)) :=
  congrArg Host.Outcome.next (takeFrame_of_table hh hr hb _ _ _)

theorem exec_selectOn {h : FrameHead} {m : RangeMsg} {s : State} (hh : handed h (.select m true) s)
    (hr : s.straps.role = .booth) (hb : h.broadcast = false) :
    exec (.selectOn h m) s = .next (takeSelectOn h.source m (judged s)) :=
  congrArg Host.Outcome.next (takeFrame_of_table hh hr hb _ _ _)

theorem exec_selectOff {h : FrameHead} {m : RangeMsg} {s : State} (hh : handed h (.select m false) s)
    (hr : s.straps.role = .booth) (hb : h.broadcast = false) :
    exec (.selectOff h m) s = .next (takeSelectOff h.source m (judged s)) :=
  congrArg Host.Outcome.next (takeFrame_of_table hh hr hb _ _ _)

/-- Settles O54: a refused range is answered, a changed one is the table's, and a SELECT off lets the entries of its range
go one by one before it is answered. -/
theorem clearAndSelectChangeTheirRange : Obligations.ClearAndSelectChangeTheirRange := by
  intro h m s hr hb _
  refine ⟨fun hh => ⟨fun hlt => ?clearBad, fun hle hbusy => ?clearBusy, fun hle hfree => ?clear⟩,
    fun hh => ⟨fun hlt => ?onBad, fun hle => ?on⟩, fun hh => ⟨fun hlt => ?offBad, fun hle => ?off⟩⟩
  case clearBad =>
    rw [exec_clear hh hr hb, takeClear, rangeOf_of_lt hlt]
    rfl
  case clearBusy =>
    have hrange : (judged s).rangeBusy (m.first.toNat, min m.last.toNat 127) = true := hbusy
    rw [exec_clear hh hr hb, takeClear, rangeOf_of_le hle]
    simp only [hrange, if_true]
    rfl
  case clear =>
    have hrange : (judged s).rangeBusy (m.first.toNat, min m.last.toNat 127) = false := hfree
    have hrow : takeClear h.source m (judged s) = tableChanged (giveReply h.source (plainReply .clear m.first .accepted)
        ((judged s).changeRange (m.first.toNat, min m.last.toNat 127) (fun _ => none))) := by
      simp [takeClear, rangeOf_of_le hle, hrange]
    obtain ⟨hcues, hkept, hflags, hwhole⟩ := tableChanged_changeRange _ _ _ _ s rfl
    refine ⟨_, (exec_clear hh hr hb).trans (congrArg _ hrow), hkept, hflags, hwhole, fun slot _ => ?_⟩
    rw [State.cueAt, hcues]
    exact cueAt_changeRange _ rfl (judged s) slot
  case onBad =>
    rw [exec_selectOn hh hr hb, takeSelectOn, rangeOf_of_lt hlt]
    rfl
  case on =>
    have hrow : takeSelectOn h.source m (judged s) = tableChanged (giveReply h.source
        (plainReply .select m.first .accepted)
        ((judged s).changeRange (m.first.toNat, min m.last.toNat 127) (selectSlot true))) := by
      simp [takeSelectOn, rangeOf_of_le hle]
    obtain ⟨hcues, hkept, hflags, hwhole⟩ := tableChanged_changeRange _ _ _ _ s rfl
    refine ⟨_, (exec_selectOn hh hr hb).trans (congrArg _ hrow), hkept, hflags, hwhole, fun slot _ => ?_⟩
    rw [State.cueAt, hcues]
    exact cueAt_changeRange _ (f := selectSlot true) rfl (judged s) slot
  case offBad =>
    rw [exec_selectOff hh hr hb, takeSelectOff, rangeOf_of_lt hlt]
    rfl
  case off =>
    generalize hlast : min m.last.toNat 127 = last at hle ⊢
    have hrow : takeSelectOff h.source m (judged s) = tableChanged (giveReply h.source
        (plainReply .select m.first .accepted) (deselectedStation m.first.toNat last s)) := by
      subst hlast
      simp [takeSelectOff, rangeOf_of_le hle, deselectedStation, unselected]
    obtain ⟨t, ht⟩ : ∃ t, t = tableChanged (giveReply h.source (plainReply .select m.first .accepted)
      (deselectedStation m.first.toNat last s)) := ⟨_, rfl⟩
    have hlater : TablesKept (deselectedStation m.first.toNat last s) t :=
      ht ▸ (takesKept_give _ _ _).toTablesKept.trans (tablesKept_tableChanged _)
    have hafter : BoothOnly (deselectedStation m.first.toNat last s) t :=
      ht ▸ (boothOnly_give _ _ _).trans (boothOnly_tableChanged _)
    have hbooth := boothOnly_deselectedStation m.first.toNat last s
    have htakes := takes_deselectedStation m.first.toNat last s
    rw [← hlater.takes] at htakes
    refine ⟨t, deselectedStation m.first.toNat last s, (exec_selectOff hh hr hb).trans (congrArg _ (hrow.trans ht.symm)),
      keptByTable_of_boothOnly (hbooth.trans hafter) rfl htakes, (hbooth.trans hafter).flags, ht,
      keptByTable_of_boothOnly hbooth hlater.cues.symm (hlater.takes.symm.trans htakes), hbooth.flags, fun e he => ?earlier,
      fun e he hout => ?left, fun e he => ?none, hlater.cues ▸ images_deselectedStation _ _ s, fun slot => ?selected,
      fun slot hout => ?outside, fun slot hfirst hslot hidle => ?idle, outside_tableChanged ht,
      fun hlook hline => (sends_deselectedStation _ _ hlook.2.1).sent hline.2.1, fun _ hlook htake _ => ?takes⟩
    case earlier =>
      rw [entries_deselectedStation] at he
      exact (List.mem_filter.mp he).1
    case left =>
      rw [entries_deselectedStation]
      exact List.mem_filter.mpr ⟨he, by rw [decide_eq_false hout]; rfl⟩
    case none =>
      rw [entries_deselectedStation] at he
      exact of_decide_eq_false (Bool.not_eq_true' _ ▸ (List.mem_filter.mp he).2)
    case selected => rw [hlater.cueAt, selected_deselectedStation]
    case outside => rw [hlater.cueAt, cueAt_deselectedStation_outside _ _ _ hout]
    case idle => rw [hlater.cueAt, cueAt_deselectedStation_idle _ _ _ ⟨hfirst, hslot⟩ hidle]
    case takes =>
      have hsound := takeSound_of_takeInv hlook.2.1 htake
      refine ⟨?_, fun r hrec hended => ?_, fun e he hfirst hslot j cue hserial hj hcue => ?_⟩
      · rw [hlater.takes, journal_deselectedStation _ _ hsound hlook.2.1]
      · rw [hlater.takes]
        exact record_ended_foldl (takeSound_unselected _ _ hsound) hlook.2.1 hrec hended
      · obtain ⟨hkept, hundone⟩ :=
          stopped_deselectedStation _ _ hsound hlook.2.1 he ⟨hfirst, hslot⟩ hserial hj hcue
        exact takeStopped_of_stopped hkept hundone hbooth.ref hlater hafter

end Sys2Proof.Machine
end

/-! ## What every command does, as one operation after another: the blocks of a role act under that role and in ACTIVE, and
what lies outside the blocks changes by itself -/

section
namespace Sys2Proof.Machine

open Sys2Proof.Safety

/-! ### Changes that reach no block -/

/-- Nothing has changed but the line unit, the panel port, the timers, the peers, the pseudorandom register, and the
counts of the reference unit. -/
structure LineOnly (s t : State) : Prop where
  same : t = { s with
    ref := { t.ref with transport := s.ref.transport, position := s.ref.position }
    line := t.line, station := { t.station with state := s.station.state }, port := t.port, pending := t.pending }

/-- Neither have the transmit queue and the attempt. -/
structure BlocksKept (s t : State) : Prop extends LineOnly s t where
  line : t.line = { t.line with queue := s.line.queue, attempt := s.line.attempt }

namespace LineOnly

variable {s t u : State}

theorem of_queueOnly (h : QueueOnly s t) : LineOnly s t := ⟨h.state.trans (by rw [h.state])⟩

theorem trans (h : LineOnly s t) (k : LineOnly t u) : LineOnly s u := ⟨k.same.trans (by rw [h.same])⟩

theorem straps (h : LineOnly s t) : t.straps = s.straps := by rw [h.same]

theorem transport (h : LineOnly s t) : t.ref.transport = s.ref.transport := by rw [h.same]

theorem position (h : LineOnly s t) : t.ref.position = s.ref.position := by rw [h.same]

theorem cues (h : LineOnly s t) : t.cues = s.cues := by rw [h.same]

theorem entries (h : LineOnly s t) : t.entries = s.entries := by rw [h.same]

theorem out (h : LineOnly s t) : t.out = s.out := by rw [h.same]

theorem takes (h : LineOnly s t) : t.takes = s.takes := by rw [h.same]

theorem claimCounter (h : LineOnly s t) : t.claimCounter = s.claimCounter := by rw [h.same]

theorem tracks (h : LineOnly s t) : t.tracks = s.tracks := by rw [h.same]

theorem state (h : LineOnly s t) : t.station.state = s.station.state := by rw [h.same]

theorem active (h : LineOnly s t) : t.active = s.active := by rw [State.active, h.state, State.active]

end LineOnly

namespace BlocksKept

variable {s t u : State}

theorem queue (h : BlocksKept s t) : t.line.queue = s.line.queue := by rw [h.line]

theorem attempt (h : BlocksKept s t) : t.line.attempt = s.line.attempt := by rw [h.line]

theorem trans (h : BlocksKept s t) (k : BlocksKept t u) : BlocksKept s u :=
  ⟨h.toLineOnly.trans k.toLineOnly, k.line.trans (by rw [h.line])⟩

theorem refl (s : State) : BlocksKept s s := ⟨⟨rfl⟩, rfl⟩

end BlocksKept

theorem blocksKept_answerWith (st : Status) (body : List Byte) (s : State) : BlocksKept s (s.answerWith st body) :=
  ⟨⟨rfl⟩, rfl⟩

theorem blocksKept_setFlag (f : Flag) (s : State) : BlocksKept s (s.setFlag f) := ⟨⟨rfl⟩, rfl⟩

theorem blocksKept_withReceiver (r : Receiver) (s : State) : BlocksKept s (s.withReceiver r) := ⟨⟨rfl⟩, rfl⟩

theorem blocksKept_updatePeer (a : Addr) (f : Peer → Peer) (s : State) : BlocksKept s (s.updatePeer a f) := ⟨⟨rfl⟩, rfl⟩

theorem blocksKept_countFixed (fixed : Bool) (s : State) : BlocksKept s (countFixed fixed s) := by
  cases fixed <;> exact ⟨⟨rfl⟩, rfl⟩

theorem blocksKept_cutAfterHeader (h : BitVec 24) (bits : List Bool) (s : State) :
    BlocksKept s (cutAfterHeader h bits s) := by
  unfold cutAfterHeader
  split <;> exact ⟨⟨rfl⟩, rfl⟩

theorem blocksKept_quietLine (n : Nat) (s : State) : BlocksKept s (quietLine n s) := by
  rcases quietLine_cases n s with ⟨-, h⟩ | ⟨-, h⟩ <;> rw [h] <;> exact ⟨⟨rfl⟩, rfl⟩

theorem blocksKept_turnBusy (busy : Bool) (s : State) : BlocksKept s (turnBusy busy s) := by
  rcases turnBusy_cases busy s with ⟨-, -, -, h⟩ | h <;> rw [h] <;> exact ⟨⟨rfl⟩, rfl⟩

theorem blocksKept_popInbox (s : State) : BlocksKept s (popInbox s) := by
  unfold popInbox
  split <;> exact ⟨⟨rfl⟩, rfl⟩

theorem blocksKept_placeReply (source : Addr) (m : ReplyMsg) (s : State) : BlocksKept s (placeReply source m s) := by
  unfold placeReply
  split <;> exact ⟨⟨rfl⟩, rfl⟩

theorem blocksKept_raiseLine (s : State) : BlocksKept s (raiseLine s) := by
  unfold raiseLine State.setFlagIf
  split <;> exact ⟨⟨rfl⟩, rfl⟩

theorem blocksKept_refusedPulse (s : State) : BlocksKept s (refusedPulse s) := by
  unfold refusedPulse
  split <;> exact ⟨⟨rfl⟩, rfl⟩

theorem blocksKept_takePositionBit (bit : Bool) (s : State) : BlocksKept s (takePositionBit bit s) := by
  have hword (u : State) : BlocksKept u (completeWord u) := by
    unfold completeWord
    split
    · split <;> exact ⟨⟨rfl⟩, rfl⟩
    · exact ⟨⟨rfl⟩, rfl⟩
  unfold takePositionBit
  split
  · exact ⟨⟨rfl⟩, rfl⟩
  · split
    · exact .trans (t := { s with ref := shiftIn bit s.ref }) ⟨⟨rfl⟩, rfl⟩ (hword _)
    · exact ⟨⟨rfl⟩, rfl⟩

theorem lineOnly_collide (m : TxMsg) (s : State) : LineOnly s (collide m s) := by
  unfold collide
  split <;> exact ⟨rfl⟩

theorem lineOnly_beaconSent (m : TxMsg) (s : State) : LineOnly s (beaconSent m s) := by
  unfold beaconSent
  split <;> exact ⟨rfl⟩

theorem lineOnly_dropAttempted (s : State) : LineOnly s (dropAttempted s) :=
  ⟨rfl⟩

theorem lineOnly_setBeaconTimer (s : State) : LineOnly s s.setBeaconTimer :=
  ⟨rfl⟩

theorem queueOnly_panelOffer (dest : Addr) (m : Message) (s : State) : QueueOnly s (panelOffer dest m s).1 := by
  unfold panelOffer
  split
  · exact queueOnly_withQueue _ s
  · exact (queueOnly_withQueue _ s).trans (queueOnly_setFlag _ _)
  · exact .refl s

/-! ### The operations -/

/-- A message that an ACTIVE booth's blocks take and that is more than a REPLY. -/
inductive BoothAct : State → State → Prop
  | answer (m : AnswerMsg) (s : State) : BoothAct s (takeAnswer m s)
  | gate (source : Addr) (m : GateMsg) (s : State) : BoothAct s (takeGate source m s)
  | abort (room : AbortRoom) (s : State) : BoothAct s (abortBooth room s)
  | load (source : Addr) (m : LoadMsg) (s : State) : BoothAct s (takeLoad source m s)
  | clear (source : Addr) (m : RangeMsg) (s : State) : BoothAct s (takeClear source m s)
  | selectOn (source : Addr) (m : RangeMsg) (s : State) : BoothAct s (takeSelectOn source m s)
  | selectOff (source : Addr) (m : RangeMsg) (s : State) : BoothAct s (takeSelectOff source m s)
  | mark (source : Addr) (m : MarkMsg) (s : State) : BoothAct s (takeMarkMessage source m s)

/-- What a command does. -/
inductive Effect : State → State → Prop
  | kept {s t : State} (h : BlocksKept s t) : Effect s t
  | line {s t : State} (h : LineOnly s t) (ha : s.active = true ∨ s.line.attempt.isSome = true) : Effect s t
  | fresh (k : Straps) (s : State) : Effect s (freshState k s)
  | muted (s : State) : Effect s (enterMuted s)
  | engine (s : State) : Effect s (resetEngine s)
  | joined (s : State) (h : s.station.state = .held) : Effect s (enterJoining s)
  | activated (s : State) : Effect s (enterActive s)
  | ticked (s : State) : Effect s (ticked s)
  | boundary (accepted : Bool) (s : State) : Effect s (frameBoundary accepted s)
  | unlocked (s : State) : Effect s (unlockByTime s)
  | keyed (s : State) : Effect s s.fixKeyed
  | swept (on : Bool) (s : State) : Effect s { s with out := if on then sweepOn s.out else sweepOff s.out }
  | answerExpiry (slot : Nat) (s : State) : Effect s (takeAnswerExpiry slot s)
  | peerLost (a : Addr) (p : Peer) (s : State) : Effect s (losePeer a p s)
  | booth {s t : State} (h : BoothAct s t) (hr : s.straps.role = .booth) (ha : s.active = true) : Effect s t
  | recorder {s t : State} (h : RecorderOnly s t) (hr : isRecorder s.straps.role = true) (ha : s.active = true) :
      Effect s t
  | note (source : Addr) (m : TakeNoteMsg) (s : State) (hr : s.straps.role = .desk) (ha : s.active = true) :
      Effect s (takeDeskNote source m s)
  | abortSent (room : AbortRoom) (s : State) (h : s.line.attempt.isSome = true) :
      Effect s (takeAbort room (dropAttempted s))
  | trans {s t u : State} (h : Effect s t) (k : Effect t u) : Effect s u

theorem Effect.refl (s : State) : Effect s s := .kept (.refl s)

/-- An ACTIVE station gives a message. -/
theorem Effect.queue {s t : State} (h : QueueOnly s t) (ha : s.active = true) : Effect s t :=
  .line (.of_queueOnly h) (.inl ha)

/-! ### Headers and frames -/

theorem effect_handSource (own : Bool) (source : Addr) (s : State) : Effect s (handSource own source s) := by
  rcases handSource_cases own source s with ⟨-, -, h⟩ | ⟨-, h⟩ <;> rw [h]
  · exact .refl s
  · rcases takeSource_cases source s with ⟨-, h⟩ | ⟨-, -, h⟩ | ⟨-, -, h⟩ <;> rw [h]
    · exact .kept (blocksKept_updatePeer _ _ s)
    · exact .kept (blocksKept_setFlag _ s)
    · exact .trans (.kept (blocksKept_setFlag _ s)) (.muted _)

theorem effect_receiveHeader (header : BitVec 24) (check : Byte) (s : State) :
    Effect s (receiveHeader header check s) := by
  unfold receiveHeader
  split
  · exact .trans (.kept ((blocksKept_countFixed _ s).trans (blocksKept_withReceiver _ _))) (effect_handSource _ _ _)
  · exact .kept ((blocksKept_countFixed _ s).trans ⟨⟨rfl⟩, rfl⟩)

theorem effect_judgedFrame (header : BitVec 24) (s : State) : Effect s (judgedFrame header s) := by
  unfold judgedFrame beginFrame
  split
  · exact .kept (blocksKept_withReceiver _ s)
  · exact .trans (effect_handSource _ _ s) (.kept (blocksKept_withReceiver _ _))

/-- A good frame is judged, and its owner acts in a station state that it is handed on in (R149 to R152). -/
theorem effect_takeFrame {m : Message} {act : State → State}
    (hact : ∀ u, handedIn u.station.state m = true → Effect u (act u)) (h : FrameHead) (s : State) :
    Effect s (takeFrame h m act s) := by
  have hjudged := effect_judgedFrame (headerOfFrame h m) s
  unfold takeFrame handOn
  split
  · exact .kept (blocksKept_withReceiver _ s)
  · split
    · next hd => exact .trans hjudged (hact _ (Bool.and_eq_true _ _ ▸ hd).2)
    · exact hjudged

theorem effect_takeCutShort (bits : List Bool) (s : State) : Effect s (takeCutShort bits s) := by
  have hbefore : Effect s (cutBeforeRow bits s) := by
    unfold cutBeforeRow
    split
    · exact .trans (effect_receiveHeader _ _ s) (.kept (blocksKept_cutAfterHeader _ _ _))
    · exact effect_receiveHeader _ _ s
  unfold takeCutShort cutLate
  split
  · exact .refl s
  · split
    · exact .kept ⟨⟨rfl⟩, rfl⟩
    · split
      · exact .kept (blocksKept_cutAfterHeader _ _ s)
      · exact .refl s
      · exact .refl s
      · exact hbefore
      · exact hbefore

theorem effect_takeBadFrame (header : BitVec 24) (payload : List Byte) (crc : Word16) (s : State) :
    Effect s (takeBadFrame header payload crc s) := by
  unfold takeBadFrame
  split
  · exact .trans (effect_judgedFrame header s) (.kept ⟨⟨rfl⟩, rfl⟩)
  · exact .trans (effect_judgedFrame header s) (.kept (blocksKept_setFlag _ _))
  · exact .refl s

theorem effect_ifAddressed {act : State → State} {s : State} (hact : Effect s (act s)) (h : FrameHead) :
    Effect s (ifAddressed h act s) := by
  unfold ifAddressed
  split
  · exact .refl s
  · exact hact

/-- An action of a booth on a frame that reaches ACTIVE stations. -/
theorem effect_inBooth {act : State → State} {s : State} (hact : BoothAct s (act s)) (ha : s.active = true) :
    Effect s (inBooth act s) := by
  unfold inBooth
  split
  · next hr => exact .booth hact hr ha
  · exact .refl s

theorem effect_inRecorder {act : State → State} {s : State} (hact : RecorderOnly s (act s)) (ha : s.active = true) :
    Effect s (inRecorder act s) := by
  unfold inRecorder
  split
  · next hr => exact .recorder hact hr ha
  · exact .refl s

/-- A message for a booth's tables: the booth's action, or the WRONG_ROLE answer (R27, R28, R108). -/
theorem effect_forTables {act : State → State} {s : State} (hact : s.straps.role = .booth → Effect s (act s))
    (ha : s.active = true) (kind : AnsweredKind) (h : FrameHead) (slot : Byte) :
    Effect s (ifAddressed h (forTables kind h slot act) s) := by
  refine effect_ifAddressed ?_ h
  unfold forTables
  split
  · next hr => exact hact hr
  · exact .queue (queueOnly_give _ _ s) ha

theorem boothOnly_abortBooth (room : AbortRoom) (s : State) : BoothOnly s (abortBooth room s) := by
  unfold abortBooth
  split
  · exact (boothOnly_abortLookahead s).trans (boothOnly_settle _)
  · exact .refl s

theorem boothOnly_inBooth {act : State → State} (hact : ∀ u, BoothOnly u (act u)) (s : State) :
    BoothOnly s (inBooth act s) := by
  unfold inBooth
  split
  · exact hact s
  · exact .refl s

/-- An ABORT at an ACTIVE station is its booth's or its recorder's (R66, R138). -/
theorem effect_takeAbort (room : AbortRoom) {s : State} (ha : s.active = true) : Effect s (takeAbort room s) := by
  have hbooth := boothOnly_inBooth (boothOnly_abortBooth room) s
  refine .trans (effect_inBooth (.abort room s) ha) (effect_inRecorder (recorderOnly_abortReservations room _) ?_)
  rw [State.active, hbooth.station]
  exact ha

/-! ### Pulses, expiries, and what the panel and the line ask -/

theorem effect_countLine (s : State) : Effect s (countLine s) := by
  unfold countLine
  split
  · exact .trans (.kept (blocksKept_raiseLine s)) (.trans (.boundary false _) (.keyed _))
  · exact .trans (.kept (blocksKept_raiseLine s)) (.keyed _)

theorem effect_takeFramePulse (withLine : Bool) (s : State) : Effect s (takeFramePulse withLine s) := by
  unfold takeFramePulse
  split
  · exact .boundary true s
  · split
    · exact .trans (.kept (blocksKept_refusedPulse s)) (effect_countLine _)
    · exact .kept (blocksKept_refusedPulse s)

theorem effect_takePeerLoss (a : Addr) (s : State) : Effect s (takePeerLoss a s) := by
  unfold takePeerLoss
  split
  · split
    · exact .peerLost a _ s
    · exact .refl s
  · exact .refl s

/-- A SEND queues its message in ACTIVE alone (R184). -/
theorem effect_judgeSend (kind dest : Byte) (payload : List Byte) (s : State) :
    Effect s (judgeSend kind dest payload s).1 := by
  unfold judgeSend
  split
  · exact .refl s
  · split
    · exact .refl s
    · split
      · unfold sendMessage
        split
        · exact .refl s
        · split
          · next ha => exact .queue (queueOnly_panelOffer _ _ s) ha
          · exact .refl s
      · exact .refl s

theorem effect_takeSweep (onOff : Byte) (s : State) : Effect s (takeSweep onOff s) := by
  unfold takeSweep
  split
  · exact .trans (.swept true s) (.kept (blocksKept_answerWith _ _ _))
  · exact .trans (.swept false s) (.kept (blocksKept_answerWith _ _ _))
  · exact .kept (blocksKept_answerWith _ _ s)

/-- An attempt begins in ACTIVE alone (R154). -/
theorem effect_attemptHead (s : State) : Effect s (attemptHead s) := by
  rcases attemptHead_cases s with ⟨m, rest, -, ha, -, -, h⟩ | h <;> rw [h]
  · exact .line ⟨rfl⟩ (.inl (by simp [State.active, ha]))
  · exact .refl s

theorem attempt_of_underAttempt {s : State} {m : TxMsg} (h : s.underAttempt = some m) :
    s.line.attempt.isSome = true := by
  unfold State.underAttempt at h
  split at h
  · assumption
  · cases h

/-- A message that has been sent leaves the queue; an ABORT of the panel then acts (R153, R156). -/
theorem effect_sentMessage {s : State} (ha : s.line.attempt.isSome = true) (m : TxMsg) : Effect s (sentMessage m s) := by
  have hdropped : Effect s (dropAttempted s) := .line (lineOnly_dropAttempted s) (.inr ha)
  unfold sentMessage
  split
  · exact .line (lineOnly_beaconSent m s) (.inr ha)
  · unfold actOwn
    split
    · exact .abortSent _ s ha
    · exact hdropped

/-! ### Every row -/

/-- Every row is made of these operations. -/
theorem exec_effect {c : Instr} {s t : State} (h : exec c s = .next t) : Effect s t := by
  cases c
  all_goals obtain rfl := Host.Outcome.next.inj h
  case hardwareReset => exact .fresh _ s
  case status | read | badRequest => exact .kept (blocksKept_answerWith _ _ s)
  case popInbox => exact .kept (blocksKept_popInbox s)
  case send => exact .trans (effect_judgeSend _ _ _ s) (.kept (blocksKept_answerWith _ _ _))
  case ackFlags =>
    refine .kept (.trans (t := ackFlags _ s) ?_ (blocksKept_answerWith _ _ _))
    unfold ackFlags
    split <;> exact ⟨⟨rfl⟩, rfl⟩
  case setMask => exact .kept ⟨⟨rfl⟩, rfl⟩
  case resetRestart => exact .trans (.fresh _ s) (.kept (blocksKept_answerWith _ _ _))
  case resetClear => exact .trans (.fresh _ s) (.kept (blocksKept_answerWith _ _ _))
  case resetEngine => exact .trans (.engine s) (.kept (blocksKept_answerWith _ _ _))
  case releaseHold =>
    split
    · next hheld => exact .trans (.joined s hheld) (.kept (blocksKept_answerWith _ _ _))
    · exact .kept (blocksKept_answerWith _ _ s)
  case sweep => exact effect_takeSweep _ s
  case transactionAbandoned | transactionEnd => exact .kept ⟨⟨rfl⟩, rfl⟩
  case linePulse => exact effect_countLine s
  case framePulse => exact effect_takeFramePulse _ s
  case positionBit => exact .kept (blocksKept_takePositionBit _ s)
  case tick => exact .ticked s
  case lossByTime =>
    split
    · exact .unlocked s
    · exact .refl s
  case answerTimerExpiry => exact .answerExpiry _ s
  case joinTimerExpiry =>
    split
    · exact .activated s
    · exact .refl s
  case beaconTimerExpiry =>
    split
    · next hdue =>
      have ha : s.active = true := (Bool.and_eq_true _ _ ▸ hdue).1
      exact .line ((LineOnly.of_queueOnly (queueOnly_giveBeacon s)).trans (lineOnly_setBeaconTimer _)) (.inl ha)
    · exact .refl s
  case peerLoss => exact effect_takePeerLoss _ s
  case headerReceived =>
    split
    · exact .kept (blocksKept_withReceiver _ s)
    · exact effect_receiveHeader _ _ s
  case cutShortFrame =>
    exact .trans (effect_takeCutShort _ s)
      (.kept ((blocksKept_withReceiver _ _).trans (blocksKept_quietLine _ _)))
  case beacon h m => exact effect_takeFrame (m := .beacon m) (fun u _ => .kept (blocksKept_updatePeer _ _ u)) _ s
  case claim h m =>
    exact effect_takeFrame (m := .claim m)
      (fun u ha => effect_inRecorder (recorderOnly_takeClaim _ _ u) ha) _ s
  case answer h m =>
    exact effect_takeFrame (m := .answer m)
      (fun u ha => effect_ifAddressed (effect_inBooth (.answer _ u) ha) _) _ s
  case release h m =>
    exact effect_takeFrame (m := .release m)
      (fun u ha => effect_inRecorder (recorderOnly_takeRelease _ _ u) ha) _ s
  case gate h m => exact effect_takeFrame (m := .gate m) (fun u ha => effect_inBooth (.gate _ _ u) ha) _ s
  case abort h room => exact effect_takeFrame (m := .abort room) (fun u ha => effect_takeAbort _ ha) _ s
  case load h m =>
    exact effect_takeFrame (m := .load m)
      (fun u ha => effect_forTables (fun hr => .booth (.load _ _ u) hr ha) ha _ _ _) _ s
  case clear h m =>
    exact effect_takeFrame (m := .clear m)
      (fun u ha => effect_forTables (fun hr => .booth (.clear _ _ u) hr ha) ha _ _ _) _ s
  case selectOn h m =>
    exact effect_takeFrame (m := .select m true)
      (fun u ha => effect_forTables (fun hr => .booth (.selectOn _ _ u) hr ha) ha _ _ _) _ s
  case selectOff h m =>
    exact effect_takeFrame (m := .select m false)
      (fun u ha => effect_forTables (fun hr => .booth (.selectOff _ _ u) hr ha) ha _ _ _) _ s
  case digest h m =>
    exact effect_takeFrame (m := .digest m)
      (fun u ha => effect_forTables (fun _ => .queue (queueOnly_give _ _ u) ha) ha _ _ _) _ s
  case mark h m =>
    exact effect_takeFrame (m := .mark m)
      (fun u ha => effect_forTables (fun hr => .booth (.mark _ _ u) hr ha) ha _ _ _) _ s
  case reply h m =>
    exact effect_takeFrame (m := .reply m)
      (fun u _ => effect_ifAddressed (.kept (blocksKept_placeReply _ _ u)) _) _ s
  case takeNote h m =>
    refine effect_takeFrame (m := .takeNote m) (fun u ha => ?_) _ s
    unfold inDesk
    split
    · next hr => exact .note _ _ u hr ha
    · exact .refl u
  case attemptStart =>
    exact .trans (.kept (blocksKept_quietLine _ s))
      (.trans (effect_attemptHead _) (.kept (blocksKept_turnBusy _ _)))
  case collision =>
    split
    · next hm => exact .line (lineOnly_collide _ s) (.inr (attempt_of_underAttempt hm))
    · exact .refl s
  case frameSent =>
    split
    · next hm =>
      exact .trans (effect_sentMessage (attempt_of_underAttempt hm) _) (.kept (blocksKept_withReceiver _ _))
    · exact .refl s
  case frameJudgedBad =>
    split
    · exact .kept (blocksKept_withReceiver _ s)
    · exact effect_takeBadFrame _ _ _ s

/-- A step is a row on the station with the rest of its queue. -/
theorem step_effect {s t : State} (h : step s = .next t) : Effect s t := by
  unfold step at h
  split at h
  · obtain rfl := Host.Outcome.next.inj h
    exact .refl s
  · next c rest _ => exact .trans (t := { s with pending := rest }) (.kept ⟨⟨rfl⟩, rfl⟩) (exec_effect h)

end Sys2Proof.Machine
end

/-! ## Stations whose blocks are idle: the cue outputs outside an ACTIVE booth, and tracks and lookahead with nothing in
them (R45, R73, R82, R84, R86, R127) -/

section
namespace Sys2Proof.Machine

open Sys2Proof.Safety

/-! ### The cue outputs outside an ACTIVE booth -/

/-- Outside an ACTIVE booth nothing is drawn, and BEEP and LIGHT are off (R73, R82, R84, R86). -/
theorem settle_of_inactive {s : State} (h : s.activeBooth = false) : s.settle = { s with out := { s.out with
    drawn := [], resumed := false, flash := false, beep := false, light := .off } } := by
  have hjudged (o : Outputs) : State.activeBooth { s with out := o } = false := h
  simp only [State.settle, State.redraw, State.keyingPermitted, State.judgeLevels, State.beepLevel, State.lightLevel,
    hjudged, Bool.false_and, Bool.false_eq_true, if_false]

theorem settleBoundary_of_inactive {s : State} (h : s.activeBooth = false) :
    s.settleBoundary = { s with out := { s.out with
      drawn := [], resumed := false, flash := false, beep := false, light := .off } } :=
  settle_of_inactive (s := { s with out := { s.out with resumed := true } }) h

theorem activeBooth_of_role {s : State} (h : s.straps.role ≠ .booth) : s.activeBooth = false := by
  simp [State.activeBooth, h]

theorem activeBooth_of_inactive {s : State} (h : s.active = false) : s.activeBooth = false := by
  simp [State.activeBooth, h]

theorem activeBooth_congr {s t : State} (hs : t.straps = s.straps) (hu : t.station = s.station) :
    t.activeBooth = s.activeBooth := by
  simp [State.activeBooth, State.active, hs, hu]

theorem active_congr {s t : State} (hu : t.station = s.station) : t.active = s.active := by
  simp [State.active, hu]

theorem recompute_of_inactive {s : State} (h : s.activeBooth = false) : recompute s = s := by
  simp [recompute, State.recomputes, h]

/-! ### An empty lookahead -/

theorem abortTakes_of_empty (cause : TakeCause) {s : State} (h : s.entries = []) : abortTakes cause s = s := by
  simp [abortTakes, h]

theorem emptyForEngine_of_empty {s : State} (h : s.entries = []) : emptyForEngine s = s := by
  simp [emptyForEngine, abortTakes_of_empty .engine h, h]

theorem emptyForMuted_of_empty {s : State} (h : s.entries = []) : emptyForMuted s = s := by
  rw [emptyForMuted, abortTakes_of_empty .muted h, ← h]

theorem takeAnswerExpiry_of_empty (slot : Nat) {s : State} (h : s.entries = []) : takeAnswerExpiry slot s = s := by
  simp [takeAnswerExpiry, State.entryOf, h]

theorem claimsPeerLost_of_empty (p : Peer) {s : State} (h : s.entries = []) : claimsPeerLost p s = s := by
  have hmap (f : Entry → Entry) : { s with entries := s.entries.map f } = s := by rw [h, List.map_nil, ← h]
  unfold claimsPeerLost
  split
  · split
    · exact hmap _
    · rfl
  · rfl

/-! ### Empty tracks -/

/-- Every own track has an empty table and its gate CLOSED (R127). -/
def State.tracksEmpty (s : State) : Prop := ∀ t ∈ s.tracks, t.named = none ∧ t.table = []

theorem track_of_tracksEmpty {s : State} (h : s.tracksEmpty) {i : Nat} {t : Track} (ht : s.tracks[i]? = some t) :
    t = { named := none, table := [] } := by
  obtain ⟨hnamed, htable⟩ := h t (List.mem_of_getElem? ht)
  cases t
  simp_all

theorem setTrack_self {s : State} {i : Nat} {t : Track} (ht : s.tracks[i]? = some t) : s.setTrack i t = s := by
  obtain ⟨hi, rfl⟩ := List.getElem?_eq_some_iff.mp ht
  simp [State.setTrack]

/-- An empty table names no reservation (R133). -/
theorem gateNamed_of_table {t : Track} (h : t.table = []) (s : State) : s.gateNamed t = none := by
  simp [State.gateNamed, coveringReservation, h]

theorem cutTracks_of_tracksEmpty (reason : GateReason) {s : State} (h : s.tracksEmpty) : cutTracks reason s = s := by
  refine List.foldl_fixed' (fun i => ?_) _
  unfold cutTrack
  split
  · next t ht => rw [track_of_tracksEmpty h ht]
  · rfl

theorem reservationsPeerLost_of_tracksEmpty (a : Addr) {s : State} (h : s.tracksEmpty) :
    reservationsPeerLost a s = s := by
  refine List.foldl_fixed' (fun i => ?_) _
  unfold peerLostTrack
  split
  · next t ht =>
    obtain rfl := track_of_tracksEmpty h ht
    have hlost : Track.lostNamed a { named := none, table := [] } = none := rfl
    have hwithout : Track.without a { named := none, table := [] } = { named := none, table := [] } := rfl
    have hnamed : s.gateNamed { named := none, table := [] } = none := gateNamed_of_table (t := ⟨none, []⟩) rfl s
    rw [hlost, hwithout, setTrack_self ht]
    simp only [cutLost, evaluateTrack, ht, hnamed, announceGate, setTrack_self ht]
  · rfl

theorem tracksEmpty_emptyTracks {s : State} (h : s.tracks = emptyTracks) : s.tracksEmpty := by
  intro t ht
  rw [h] at ht
  rw [List.eq_of_mem_replicate ht]
  exact ⟨rfl, rfl⟩

theorem tracksEmpty_congr {s t : State} (ht : t.tracks = s.tracks) (h : s.tracksEmpty) : t.tracksEmpty := by
  rw [State.tracksEmpty, ht]
  exact h

/-! ### Reports outside an ACTIVE station, and outside a booth -/

/-- The station at a boundary when the blocks of its role begin to act: the reference unit has moved, the sweep has
counted, and the BEACON of a change is given (R6, R22, R79, R170). -/
def State.opened (accepted : Bool) (s : State) : State :=
  reportBeacon (boundaryReport accepted s)
    { refBoundary accepted s with out := newFrameOutputs (refBoundary accepted s).out }

theorem frameBoundary_eq (accepted : Bool) (s : State) : frameBoundary accepted s =
    (roleBoundary (boundaryReport accepted s) (s.opened accepted)).settleBoundary := rfl

theorem queueOnly_opened (accepted : Bool) (s : State) :
    QueueOnly { s with ref := s.refAfter accepted, out := newFrameOutputs s.out } (s.opened accepted) := by
  have href : refBoundary accepted s = { s with
      ref := s.refAfter accepted, port := { s.port with sticky := (refBoundary accepted s).port.sticky } } := by
    simp only [refBoundary, setFlagIf_eq]
  have hflags : flagsKept s (refBoundary accepted s) := (reportOnly_refBoundary accepted s).flags
  refine .trans ?_ (queueOnly_reportBeacon _ _)
  rw [href] at hflags ⊢
  exact ⟨rfl, hflags⟩

/-- The station at a loss by time when the blocks of its role begin to act: the reference unit has entered UNLOCKED, and
the BEACON is given (R18, R19, R22). -/
def State.unlockedByTime (s : State) : State :=
  reportBeacon (unlockReport s) (State.setFlag .refUnlock { s with ref := enterUnlocked s.ref })

theorem unlockByTime_eq (s : State) :
    unlockByTime s = (roleUnlock (unlockReport s) s.unlockedByTime).settle := rfl

theorem queueOnly_unlockedByTime (s : State) :
    QueueOnly { s with ref := enterUnlocked s.ref } s.unlockedByTime :=
  (queueOnly_setFlag _ _).trans (queueOnly_reportBeacon _ _)

/-- Outside ACTIVE no block acts on a boundary. -/
theorem frameBoundary_of_inactive (accepted : Bool) {s : State} (h : s.active = false) :
    frameBoundary accepted s = { refBoundary accepted s with out := { newFrameOutputs (refBoundary accepted s).out with
      drawn := [], resumed := false, flash := false, beep := false, light := .off } } := by
  have hactive : State.active { refBoundary accepted s with out := newFrameOutputs (refBoundary accepted s).out } =
      false := (active_congr (reportOnly_refBoundary accepted s).station).trans h
  have hbooth := activeBooth_of_inactive hactive
  unfold frameBoundary publishBoundary
  simp only [reportBeacon, roleBoundary, hactive, hbooth, Bool.false_and, Bool.and_false, Bool.false_eq_true, if_false]
  exact settleBoundary_of_inactive hbooth

/-- Outside ACTIVE no block acts on the loss of the reference. -/
theorem unlockByTime_of_inactive {s : State} (h : s.active = false) :
    unlockByTime s = State.setFlag .refUnlock { s with ref := enterUnlocked s.ref, out := { s.out with
      drawn := [], resumed := false, flash := false, beep := false, light := .off } } := by
  have hactive : State.active (State.setFlag .refUnlock { s with ref := enterUnlocked s.ref }) = false := h
  have hbooth := activeBooth_of_inactive hactive
  unfold unlockByTime
  simp only [reportBeacon, roleUnlock, hactive, hbooth, Bool.false_and, Bool.and_false, Bool.false_eq_true, if_false]
  exact settle_of_inactive hbooth

/-- Outside a booth the blocks that act on a boundary are a recorder's, or none. -/
theorem recorderOnly_roleBoundary (r : Report) {s : State} (h : s.activeBooth = false) :
    RecorderOnly s (roleBoundary r s) := by
  unfold roleBoundary
  rw [h]
  simp only [Bool.false_eq_true, if_false]
  split
  · exact recorderOnly_reservationBoundary r s
  · exact .refl s

theorem recorderOnly_roleUnlock (r : Report) {s : State} (h : s.activeBooth = false) :
    RecorderOnly s (roleUnlock r s) := by
  unfold roleUnlock
  rw [h]
  simp only [Bool.false_eq_true, if_false]
  split
  · exact (recorderOnly_protect r s).trans (recorderOnly_evaluateTracks _)
  · exact .refl s

/-- Outside a recorder they are a booth's, or none. -/
theorem boothOnly_roleBoundary (r : Report) {s : State} (h : isRecorder s.straps.role = false) :
    BoothOnly s (roleBoundary r s) := by
  unfold roleBoundary
  rw [h]
  split
  · exact boothOnly_boothBoundary r s
  · exact .refl s

theorem boothOnly_roleUnlock (r : Report) {s : State} (h : isRecorder s.straps.role = false) :
    BoothOnly s (roleUnlock r s) := by
  unfold roleUnlock
  rw [h]
  split
  · exact boothOnly_transportAbort r s
  · exact .refl s

/-! ### The frames of the remaining operations -/

theorem boothOnly_answerExpired (e : Entry) (s : State) : BoothOnly s (answerExpired e s) := by
  unfold answerExpired
  split
  · exact boothOnly_updateEntry _ _ s
  · split
    · exact (boothOnly_updateEntry _ _ s).trans (boothOnly_give _ _ _)
    · exact .refl s

theorem boothOnly_takeAnswerExpiry (slot : Nat) (s : State) : BoothOnly s (takeAnswerExpiry slot s) := by
  unfold takeAnswerExpiry
  split
  · split
    · exact boothOnly_answerExpired _ s
    · exact .refl s
  · exact .refl s

theorem boothOnly_claimsPeerLost (p : Peer) (s : State) : BoothOnly s (claimsPeerLost p s) := by
  unfold claimsPeerLost
  split
  · split
    · exact boothOnly_entries _ s
    · exact .refl s
  · exact .refl s

/-- The booth's part of a peer loss (R89, R117). -/
theorem boothOnly_viewPeerLost (a : Addr) (p : Peer) (s : State) :
    BoothOnly s (viewPeerLost a (claimsPeerLost p s)) :=
  (boothOnly_claimsPeerLost p s).trans (boothOnly_out _ _)

/-- What a message does that a booth's blocks take: it stays in what they own. -/
theorem boothOnly_of_boothAct {s t : State} (h : BoothAct s t) : BoothOnly s t := by
  have hrange (range : Nat × Nat) (f : Option Cue → Option Cue) (u : State) : BoothOnly u (u.changeRange range f) :=
    ⟨rfl, flagsKept_of_sticky rfl⟩
  cases h with
  | answer m => exact boothOnly_takeAnswer m s
  | gate source m =>
    exact ((boothOnly_out _ s).trans (boothOnly_gateEvidence m _)).trans (boothOnly_settle _)
  | abort room => exact boothOnly_abortBooth room s
  | load source m => exact boothOnly_takeLoad source m s
  | clear source m =>
    unfold takeClear
    split
    · split
      · exact boothOnly_give _ _ s
      · exact ((hrange _ _ s).trans (boothOnly_give _ _ _)).trans (boothOnly_tableChanged _)
    · exact boothOnly_give _ _ s
  | selectOn source m =>
    unfold takeSelectOn
    split
    · exact ((hrange _ _ s).trans (boothOnly_give _ _ _)).trans (boothOnly_tableChanged _)
    · exact boothOnly_give _ _ s
  | selectOff source m =>
    unfold takeSelectOff
    split
    · exact (((hrange _ _ s).trans (.foldl (fun u slot => boothOnly_deselectEntry slot u) _ _)).trans
        (boothOnly_give _ _ _)).trans (boothOnly_tableChanged _)
    · exact boothOnly_give _ _ s
  | mark source m =>
    refine .trans (t := (markTake m s).1) ?_ (boothOnly_give _ _ _)
    unfold markTake
    split
    · exact .refl s
    · split
      · exact .refl s
      · exact (boothOnly_updateRecord _ _ s).trans (boothOnly_updateCue _ _ _)

end Sys2Proof.Machine
end

/-! ## A station outside ACTIVE stays silent (R45, R86, R152, R154, R177) -/

section
namespace Sys2Proof.Machine

open Sys2Proof.Safety

/-- Nothing to send, no entry, no reservation and no gate open, and the cue outputs inactive. -/
structure Silent (s : State) : Prop where
  queue : s.line.queue = []
  attempt : s.line.attempt = none
  entries : s.entries = []
  tracks : s.tracksEmpty
  drawn : s.out.drawn = []
  flash : s.out.flash = false
  beep : s.out.beep = false
  light : s.out.light = .off

theorem quietInv_iff {s : State} : QuietInv s ↔ (s.active = false → Silent s) := by
  have hactive : s.active = false ↔ s.station.state ≠ .active := by simp [State.active]
  rw [hactive]
  constructor
  · intro h hs
    obtain ⟨hqueue, hattempt, hentries, htracks, hdrawn, hflash, hbeep, hlight⟩ := h hs
    exact ⟨hqueue, hattempt, hentries, htracks, hdrawn, hflash, hbeep, hlight⟩
  · intro h hs
    obtain ⟨hqueue, hattempt, hentries, htracks, hdrawn, hflash, hbeep, hlight⟩ := h hs
    exact ⟨hqueue, hattempt, hentries, htracks, hdrawn, hflash, hbeep, hlight⟩

/-- A silent station whose outputs are judged again is silent. -/
theorem silent_settle {s t : State} (h : Silent s) (ha : t.active = false) (hq : t.line.queue = s.line.queue)
    (hattempt : t.line.attempt = s.line.attempt) (hentries : t.entries = s.entries) (htracks : t.tracksEmpty) :
    Silent t.settle := by
  rw [settle_of_inactive (activeBooth_of_inactive ha)]
  exact ⟨hq.trans h.queue, hattempt.trans h.attempt, hentries.trans h.entries, htracks, rfl, rfl, rfl, rfl⟩

theorem silent_of_blocksKept {s t : State} (h : BlocksKept s t) (hs : Silent s) : Silent t where
  queue := h.queue.trans hs.queue
  attempt := h.attempt.trans hs.attempt
  entries := h.entries.trans hs.entries
  tracks := tracksEmpty_congr h.tracks hs.tracks
  drawn := by rw [h.out, hs.drawn]
  flash := by rw [h.out, hs.flash]
  beep := by rw [h.out, hs.beep]
  light := by rw [h.out, hs.light]

/-- The entry to MUTED silences every block (R177). -/
theorem silent_enterMuted (s : State) : Silent (enterMuted s) := by
  have hstation := (boothOnly_emptyForMuted { s with station := mutedStation s.station }).station
  have hbooth : (mutedBlocks { s with station := mutedStation s.station }).activeBooth = false := by
    refine activeBooth_of_inactive ((active_congr (t := mutedBlocks _) hstation).trans rfl)
  refine ⟨rfl, rfl, rfl, tracksEmpty_emptyTracks rfl, rfl, rfl, ?_, ?_⟩
  · show (mutedBlocks _).beepLevel = false
    rw [State.beepLevel, hbooth, Bool.false_and, Bool.false_and]
  · show (mutedBlocks _).lightLevel = .off
    rw [State.lightLevel, hbooth]
    rfl

/-- An ENGINE reset of a silent station has nothing to empty (R190). -/
theorem silent_resetEngine {s : State} (h : Silent s) (ha : s.active = false) : Silent (resetEngine s) := by
  have hemptied : engineEmptied s = { s with tracks := emptyTracks, out := engineOutputs s.out } := by
    rw [engineEmptied, emptyForEngine_of_empty h.entries, engineTracks, cutTracks_of_tracksEmpty .reset h.tracks]
  have hactive : (engineEmptied s).active = false := by rw [hemptied]; exact ha
  rw [resetEngine, recompute_of_inactive (activeBooth_of_inactive hactive)]
  refine silent_settle h hactive ?_ ?_ ?_ (tracksEmpty_emptyTracks ?_) <;> rw [hemptied]

theorem silent_frameBoundary (accepted : Bool) {s : State} (h : Silent s) (ha : s.active = false) :
    Silent (frameBoundary accepted s) := by
  have href : QueueOnly { s with ref := s.refAfter accepted } (refBoundary accepted s) :=
    (queueOnly_setFlagIf _ _ _).trans (queueOnly_setFlagIf _ _ _)
  have hline := refBoundary_line accepted s
  rw [frameBoundary_of_inactive accepted ha]
  exact ⟨by rw [hline]; exact h.queue, by rw [hline]; exact h.attempt, by rw [href.state]; exact h.entries,
    tracksEmpty_congr (by rw [href.state]) h.tracks, rfl, rfl, rfl, rfl⟩

theorem silent_unlockByTime {s : State} (h : Silent s) (ha : s.active = false) : Silent (unlockByTime s) := by
  rw [unlockByTime_of_inactive ha]
  exact ⟨h.queue, h.attempt, h.entries, h.tracks, rfl, rfl, rfl, rfl⟩

theorem silent_losePeer (a : Addr) (p : Peer) {s : State} (h : Silent s) (ha : s.active = false) :
    Silent (losePeer a p s) := by
  have hclaims : claimsPeerLost p (s.updatePeer a (fun x => { x with present := false })) =
      s.updatePeer a (fun x => { x with present := false }) := claimsPeerLost_of_empty p h.entries
  have htracks : State.tracksEmpty (viewPeerLost a (s.updatePeer a (fun x => { x with present := false }))) := h.tracks
  unfold losePeer
  rw [hclaims, reservationsPeerLost_of_tracksEmpty a htracks]
  exact silent_settle h ha rfl rfl rfl h.tracks

theorem active_losePeer (a : Addr) (p : Peer) (s : State) : (losePeer a p s).active = s.active := by
  have hstation : (losePeer a p s).station = (s.updatePeer a (fun x => { x with present := false })).station := by
    unfold losePeer
    rw [(boothOnly_settle _).station, (recorderOnly_reservationsPeerLost a _).station,
      (boothOnly_viewPeerLost a p _).station]
  rw [State.active, hstation]
  rfl

theorem active_takeAbort (room : AbortRoom) (s : State) : (takeAbort room s).active = s.active := by
  have hbooth := boothOnly_inBooth (boothOnly_abortBooth room) s
  have hrecorder (u : State) : (inRecorder (abortReservations room) u).station = u.station := by
    unfold inRecorder
    split
    · exact (recorderOnly_abortReservations room u).station
    · rfl
  exact active_congr ((hrecorder _).trans hbooth.station)

theorem active_enterActive (s : State) : (enterActive s).active = true := by
  rw [State.active, enterActive, (boothOnly_settle _).station]
  have hgiven := (queueOnly_giveBeacon { s with station := { s.station with state := .active } }).state
  rw [setBeaconTimer_eq, hgiven]
  rfl

/-- What a command does keeps a station that is not ACTIVE silent. -/
theorem silent_of_effect {s t : State} (h : Effect s t) :
    (s.active = false → Silent s) → t.active = false → Silent t := by
  induction h with
  | kept h => exact fun hs ha => silent_of_blocksKept h (hs (h.active.symm.trans ha))
  | line h hcause =>
    intro hs ha
    have hsilent := hs (h.active.symm.trans ha)
    rcases hcause with hactive | hattempt
    · rw [← h.active, ha] at hactive
      cases hactive
    · rw [hsilent.attempt] at hattempt
      cases hattempt
  | fresh k s => exact fun _ => quietInv_iff.mp (quietInv_freshState k s)
  | muted s => exact fun _ _ => silent_enterMuted s
  | engine s =>
    intro hs ha
    have hactive : (resetEngine s).active = s.active :=
      active_congr ((boothOnly_resetEngine s).station.trans (reportOnly_engineEmptied s).station)
    rw [hactive] at ha
    exact silent_resetEngine (hs ha) ha
  | joined s hheld =>
    intro hs _
    have hsilent := hs (by simp [State.active, hheld])
    exact silent_settle hsilent rfl rfl rfl rfl hsilent.tracks
  | activated s =>
    intro _ ha
    rw [active_enterActive] at ha
    cases ha
  | ticked s =>
    intro hs ha
    have h := hs ha
    exact ⟨h.queue, h.attempt, by simp [ticked, h.entries], h.tracks, h.drawn, h.flash, h.beep, h.light⟩
  | boundary accepted s =>
    intro hs ha
    rw [active_congr (reportOnly_frameBoundary accepted s).station] at ha
    exact silent_frameBoundary accepted (hs ha) ha
  | unlocked s =>
    intro hs ha
    rw [active_congr (reportOnly_unlockByTime s).station] at ha
    exact silent_unlockByTime (hs ha) ha
  | keyed s =>
    intro hs ha
    obtain ⟨hqueue, hattempt, hentries, htracks, hdrawn, hflash, hbeep, hlight⟩ := hs ha
    exact ⟨hqueue, hattempt, hentries, htracks, hdrawn, hflash, hbeep, hlight⟩
  | swept on s =>
    intro hs ha
    obtain ⟨hqueue, hattempt, hentries, htracks, hdrawn, hflash, hbeep, hlight⟩ := hs ha
    cases on with
    | true => exact ⟨hqueue, hattempt, hentries, htracks, hdrawn, rfl, hbeep, hlight⟩
    | false => exact ⟨hqueue, hattempt, hentries, htracks, hdrawn, hflash, hbeep, hlight⟩
  | answerExpiry slot s =>
    intro hs ha
    rw [active_congr (boothOnly_takeAnswerExpiry slot s).station] at ha
    rw [takeAnswerExpiry_of_empty slot (hs ha).entries]
    exact hs ha
  | peerLost a p s =>
    intro hs ha
    rw [active_losePeer] at ha
    exact silent_losePeer a p (hs ha) ha
  | booth h _ hactive =>
    intro _ ha
    rw [active_congr (boothOnly_of_boothAct h).station, hactive] at ha
    cases ha
  | recorder h _ hactive =>
    intro _ ha
    rw [active_congr h.station, hactive] at ha
    cases ha
  | note source m s _ hactive =>
    intro _ ha
    have hsame : (takeDeskNote source m s).active = s.active := rfl
    rw [hsame, hactive] at ha
    cases ha
  | abortSent room s hattempt =>
    intro hs ha
    rw [active_takeAbort] at ha
    rw [(hs ha).attempt] at hattempt
    cases hattempt
  | trans _ _ ih ik => exact fun hs => ik (ih hs)

/-- Settles O13, by what a command does: outside ACTIVE nothing is given to the blocks, and the entry to MUTED and the
resets leave a silent station. -/
theorem stepKeepsInactiveStationQuiet : Obligations.StepKeepsInactiveStationQuiet := by
  intro s t hs hstep
  exact quietInv_iff.mpr (silent_of_effect (step_effect hstep) (quietInv_iff.mp hs))

end Sys2Proof.Machine
end

/-! ## Blocks that the latched role lacks keep their reset values (spec 00 section 0.2, R91, R127) -/

section
namespace Sys2Proof.Machine

open Sys2Proof.Safety

/-- The booth's blocks at their reset values, with their outputs inactive. -/
structure BoothAtReset (s : State) : Prop where
  entries : s.entries = []
  cues : ∀ c ∈ s.cues, c = none
  log : s.takes.log = []
  journal : s.takes.journal = []
  serial : s.takes.serial = 0#16
  claimCounter : s.claimCounter = 0#8
  gateView : s.out.gateView = []
  beeps : s.out.beeps = []
  drawn : s.out.drawn = []
  flash : s.out.flash = false
  beep : s.out.beep = false
  light : s.out.light = .off

/-- The blocks of the three roles, each at its reset values outside its role. -/
structure AbsentAtReset (s : State) : Prop where
  booth : s.straps.role ≠ .booth → BoothAtReset s
  recorder : isRecorder s.straps.role = false → s.tracksEmpty
  desk : s.straps.role ≠ .desk → s.takes.deskLog = []

theorem roleInv_iff {s : State} : RoleInv s ↔ AbsentAtReset s := by
  constructor
  · rintro ⟨hbooth, hrecorder, hdesk⟩
    refine ⟨fun hr => ?_, hrecorder, hdesk⟩
    obtain ⟨he, hc, hl, hj, hs, hn, hg, hb, hd, hf, hp, hli⟩ := hbooth hr
    exact ⟨he, hc, hl, hj, hs, hn, hg, hb, hd, hf, hp, hli⟩
  · rintro ⟨hbooth, hrecorder, hdesk⟩
    refine ⟨fun hr => ?_, hrecorder, hdesk⟩
    obtain ⟨he, hc, hl, hj, hs, hn, hg, hb, hd, hf, hp, hli⟩ := hbooth hr
    exact ⟨he, hc, hl, hj, hs, hn, hg, hb, hd, hf, hp, hli⟩

/-! ### The booth's blocks outside a booth -/

/-- The booth's blocks are read from these fields alone. -/
theorem boothAtReset_congr {s t : State} (h : BoothAtReset s) (hentries : t.entries = s.entries) (hcues : t.cues = s.cues)
    (htakes : t.takes = s.takes) (hcounter : t.claimCounter = s.claimCounter) (hout : t.out = s.out) :
    BoothAtReset t := by
  obtain ⟨he, hc, hl, hj, hs, hn, hg, hb, hd, hf, hp, hli⟩ := h
  rw [← htakes] at hl hj hs
  rw [← hout] at hg hb hd hf hp hli
  exact ⟨hentries.trans he, hcues ▸ hc, hl, hj, hs, hcounter.trans hn, hg, hb, hd, hf, hp, hli⟩

theorem boothAtReset_of_recorderOnly {s t : State} (hk : RecorderOnly s t) (h : BoothAtReset s) : BoothAtReset t := by
  apply boothAtReset_congr h <;> rw [hk.state]

theorem boothAtReset_of_queueOnly {s t : State} (hk : QueueOnly s t) (h : BoothAtReset s) : BoothAtReset t :=
  boothAtReset_of_recorderOnly (.of_queueOnly hk) h

/-- New outputs with nothing in the view, no interval, nothing drawn and everything off. -/
theorem boothAtReset_out {s : State} {o : Outputs} (h : BoothAtReset s) (hview : o.gateView = s.out.gateView)
    (hbeeps : o.beeps = []) (hdrawn : o.drawn = []) (hflash : o.flash = false) (hbeep : o.beep = false)
    (hlight : o.light = .off) : BoothAtReset { s with out := o } :=
  ⟨h.entries, h.cues, h.log, h.journal, h.serial, h.claimCounter, hview.trans h.gateView, hbeeps, hdrawn, hflash, hbeep,
    hlight⟩

/-- Outside a booth the judgement of the outputs turns nothing on. -/
theorem boothAtReset_settle {s : State} (h : BoothAtReset s) (hb : s.activeBooth = false) : BoothAtReset s.settle := by
  rw [settle_of_inactive hb]
  exact boothAtReset_out h rfl h.beeps rfl rfl rfl rfl

theorem boothAtReset_settleBoundary {s : State} (h : BoothAtReset s) (hb : s.activeBooth = false) :
    BoothAtReset s.settleBoundary := by
  rw [settleBoundary_of_inactive hb]
  exact boothAtReset_out h rfl h.beeps rfl rfl rfl rfl

/-- A boundary reaches no booth's block outside a booth (R91). -/
theorem boothAtReset_frameBoundary (accepted : Bool) {s : State} (h : BoothAtReset s) (hb : s.activeBooth = false) :
    BoothAtReset (frameBoundary accepted s) := by
  have hopened := queueOnly_opened accepted s
  have hinactive : (s.opened accepted).activeBooth = false := by
    rw [hopened.state]
    exact hb
  have hrole := recorderOnly_roleBoundary (boundaryReport accepted s) hinactive
  have hreset : BoothAtReset { s with ref := s.refAfter accepted, out := newFrameOutputs s.out } :=
    boothAtReset_out (s := { s with ref := s.refAfter accepted }) (boothAtReset_congr (s := s) h rfl rfl rfl rfl rfl)
      rfl h.beeps h.drawn rfl h.beep h.light
  exact boothAtReset_settleBoundary
    (boothAtReset_of_recorderOnly hrole (boothAtReset_of_queueOnly hopened hreset))
    ((activeBooth_congr hrole.straps hrole.station).trans hinactive)

theorem boothAtReset_unlockByTime {s : State} (h : BoothAtReset s) (hb : s.activeBooth = false) :
    BoothAtReset (unlockByTime s) := by
  have hopened := queueOnly_unlockedByTime s
  have hinactive : s.unlockedByTime.activeBooth = false := by
    rw [hopened.state]
    exact hb
  have hrole := recorderOnly_roleUnlock (unlockReport s) hinactive
  exact boothAtReset_settle
    (boothAtReset_of_recorderOnly hrole
      (boothAtReset_of_queueOnly hopened (boothAtReset_congr (s := s) h rfl rfl rfl rfl rfl)))
    ((activeBooth_congr hrole.straps hrole.station).trans hinactive)

/-- An ENGINE reset outside a booth stops no take and makes no entry (R190). -/
theorem boothAtReset_resetEngine {s : State} (h : BoothAtReset s) (hr : s.straps.role ≠ .booth) :
    BoothAtReset (resetEngine s) := by
  have htracks := recorderOnly_engineTracks s
  have hempty : engineEmptied s = { engineTracks s with out := engineOutputs (engineTracks s).out } := by
    rw [engineEmptied, emptyForEngine_of_empty h.entries]
  have hcleared := boothAtReset_of_recorderOnly htracks h
  have hb : (engineEmptied s).activeBooth = false := by
    refine activeBooth_of_role ?_
    rw [(reportOnly_engineEmptied s).straps]
    exact hr
  rw [resetEngine, recompute_of_inactive hb]
  refine boothAtReset_settle ?_ hb
  rw [hempty]
  exact boothAtReset_out hcleared rfl rfl rfl rfl rfl hcleared.light

theorem boothAtReset_enterMuted {s : State} (h : BoothAtReset s) : BoothAtReset (enterMuted s) := by
  have hsilent := silent_enterMuted s
  have hempty : emptyForMuted { s with station := mutedStation s.station } =
      { s with station := mutedStation s.station } := emptyForMuted_of_empty h.entries
  have hview : (enterMuted s).out.gateView = s.out.gateView := by
    show (mutedOutputs (emptyForMuted { s with station := mutedStation s.station }).out).gateView = _
    rw [hempty]
    rfl
  have hkept : (enterMuted s).cues = s.cues ∧ (enterMuted s).takes = s.takes ∧
      (enterMuted s).claimCounter = s.claimCounter := by
    show (emptyForMuted { s with station := mutedStation s.station }).cues = _ ∧
      (emptyForMuted { s with station := mutedStation s.station }).takes = _ ∧
      (emptyForMuted { s with station := mutedStation s.station }).claimCounter = _
    rw [hempty]
    exact ⟨rfl, rfl, rfl⟩
  obtain ⟨hcues, htakes, hcounter⟩ := hkept
  exact ⟨hsilent.entries, by rw [hcues]; exact h.cues, by rw [htakes]; exact h.log, by rw [htakes]; exact h.journal,
    by rw [htakes]; exact h.serial, hcounter.trans h.claimCounter, hview.trans h.gateView, rfl, hsilent.drawn,
    hsilent.flash, hsilent.beep, hsilent.light⟩

/-- A peer loss outside a booth finds no claim and no pair of the view (R89, R117). -/
theorem boothAtReset_losePeer (a : Addr) (p : Peer) {s : State} (h : BoothAtReset s) (hr : s.straps.role ≠ .booth) :
    BoothAtReset (losePeer a p s) := by
  have hclaims : claimsPeerLost p (s.updatePeer a (fun x => { x with present := false })) =
      s.updatePeer a (fun x => { x with present := false }) := claimsPeerLost_of_empty p h.entries
  have hunheard : BoothAtReset (s.updatePeer a (fun x => { x with present := false })) :=
    boothAtReset_congr (s := s) h rfl rfl rfl rfl rfl
  have hview : BoothAtReset (viewPeerLost a (s.updatePeer a (fun x => { x with present := false }))) :=
    boothAtReset_out hunheard (by simp [h.gateView]) h.beeps h.drawn h.flash h.beep h.light
  have hlost := recorderOnly_reservationsPeerLost a
    (viewPeerLost a (s.updatePeer a (fun x => { x with present := false })))
  unfold losePeer
  rw [hclaims]
  refine boothAtReset_settle (boothAtReset_of_recorderOnly hlost hview) (activeBooth_of_role ?_)
  rw [hlost.straps]
  exact hr

theorem boothAtReset_enterActive {s : State} (h : BoothAtReset s) (hr : s.straps.role ≠ .booth) :
    BoothAtReset (enterActive s) := by
  have hgiven := queueOnly_giveBeacon { s with station := { s.station with state := .active } }
  have hqueued := boothAtReset_of_queueOnly hgiven (boothAtReset_congr (s := s) h rfl rfl rfl rfl rfl)
  refine boothAtReset_settle (boothAtReset_congr (t := State.setBeaconTimer _) hqueued rfl rfl rfl rfl rfl)
    (activeBooth_of_role ?_)
  show (State.giveBeacon _).straps.role ≠ .booth
  rw [hgiven.state]
  exact hr

/-- An ABORT outside a booth is a recorder's, or nobody's (R66, R138). -/
theorem recorderOnly_takeAbort (room : AbortRoom) {s : State} (hr : s.straps.role ≠ .booth) :
    RecorderOnly s (takeAbort room s) := by
  unfold takeAbort inBooth inRecorder
  rw [if_neg hr]
  split
  · exact recorderOnly_abortReservations room s
  · exact .refl s

/-- Outside a recorder it is a booth's, or nobody's. -/
theorem boothOnly_takeAbort (room : AbortRoom) {s : State} (hr : isRecorder s.straps.role = false) :
    BoothOnly s (takeAbort room s) := by
  have hbooth := boothOnly_inBooth (boothOnly_abortBooth room) s
  unfold takeAbort inRecorder
  rw [hbooth.straps, hr]
  exact hbooth

theorem deskLog_takeAbort (room : AbortRoom) (s : State) : (takeAbort room s).takes.deskLog = s.takes.deskLog := by
  have hbooth := boothOnly_inBooth (boothOnly_abortBooth room) s
  have hrecorder (u : State) : (inRecorder (abortReservations room) u).takes = u.takes := by
    unfold inRecorder
    split
    · rw [(recorderOnly_abortReservations room u).state]
    · rfl
  exact (congrArg TakeUnit.deskLog (hrecorder _)).trans hbooth.deskLog

/-! ### The three roles together -/

/-- Where the straps and the desk's log are kept, each absent block is looked at by itself. -/
theorem AbsentAtReset.step {s t : State} (h : AbsentAtReset s) (hs : t.straps = s.straps)
    (hdesk : t.takes.deskLog = s.takes.deskLog)
    (hbooth : s.straps.role ≠ .booth → BoothAtReset s → BoothAtReset t)
    (hrecorder : isRecorder s.straps.role = false → s.tracksEmpty → t.tracksEmpty) : AbsentAtReset t where
  booth hr := hbooth (hs ▸ hr) (h.booth (hs ▸ hr))
  recorder hr := hrecorder (hs ▸ hr) (h.recorder (hs ▸ hr))
  desk hr := hdesk.trans (h.desk (hs ▸ hr))

theorem AbsentAtReset.of_lineOnly {s t : State} (h : AbsentAtReset s) (hk : LineOnly s t) : AbsentAtReset t :=
  h.step hk.straps (by rw [hk.takes])
    (fun _ hb => boothAtReset_congr hb hk.entries hk.cues hk.takes hk.claimCounter hk.out)
    (fun _ => tracksEmpty_congr hk.tracks)

theorem deskLog_of_reportOnly {s t : State} (h : ReportOnly s t) : t.takes.deskLog = s.takes.deskLog := by
  rw [h.kept]

/-- What a command does keeps every absent block. -/
theorem absentAtReset_of_effect {s t : State} (h : Effect s t) (hs : AbsentAtReset s) : AbsentAtReset t := by
  induction h with
  | kept h => exact hs.of_lineOnly h.toLineOnly
  | line h _ => exact hs.of_lineOnly h
  | fresh k s => exact roleInv_iff.mp (roleInv_freshState k s)
  | muted s =>
    refine hs.step (referenceKept_enterMuted s).straps ?_ (fun _ hb => boothAtReset_enterMuted hb)
      (fun _ _ => (silent_enterMuted s).tracks)
    exact (boothOnly_emptyForMuted { s with station := mutedStation s.station }).deskLog
  | engine s =>
    have hreport := (reportOnly_engineEmptied s).trans (.of_boothOnly (boothOnly_resetEngine s))
    refine hs.step hreport.straps (deskLog_of_reportOnly hreport) (fun hr hb => boothAtReset_resetEngine hb hr)
      (fun _ _ => tracksEmpty_emptyTracks ?_)
    rw [(boothOnly_resetEngine s).tracks]
    rfl
  | joined s _ =>
    have hjoining : BoothOnly { s with station := { s.station with state := .joining, joinTimer := 150 } }
        (enterJoining s) := boothOnly_settle _
    exact hs.step hjoining.straps hjoining.deskLog
      (fun hr hb => boothAtReset_settle (boothAtReset_congr (s := s) hb rfl rfl rfl rfl rfl) (activeBooth_of_role hr))
      (fun _ => tracksEmpty_congr hjoining.tracks)
  | activated s =>
    have hactive : BoothOnly (State.giveBeacon { s with station := { s.station with state := .active } }).setBeaconTimer
        (enterActive s) := boothOnly_settle _
    have hgiven := (queueOnly_giveBeacon { s with station := { s.station with state := .active } }).state
    refine hs.step (hactive.straps.trans ?_) (hactive.deskLog.trans ?_)
      (fun hr hb => boothAtReset_enterActive hb hr) (fun _ => tracksEmpty_congr (hactive.tracks.trans ?_))
    all_goals
      rw [setBeaconTimer_eq, hgiven]
  | ticked s =>
    refine hs.step rfl rfl (fun _ hb => ?_) (fun _ => id)
    exact boothAtReset_congr hb (by simp [ticked, hb.entries]) rfl rfl rfl rfl
  | boundary accepted s =>
    have hreport := reportOnly_frameBoundary accepted s
    refine hs.step hreport.straps (deskLog_of_reportOnly hreport)
      (fun hr hb => boothAtReset_frameBoundary accepted hb (activeBooth_of_role hr)) (fun hr => tracksEmpty_congr ?_)
    have hopened := (queueOnly_opened accepted s).state
    rw [frameBoundary_eq, (boothOnly_settleBoundary _).tracks,
      (boothOnly_roleBoundary _ (by rw [hopened]; exact hr)).tracks, hopened]
  | unlocked s =>
    have hreport := reportOnly_unlockByTime s
    refine hs.step hreport.straps (deskLog_of_reportOnly hreport)
      (fun hr hb => boothAtReset_unlockByTime hb (activeBooth_of_role hr)) (fun hr => tracksEmpty_congr ?_)
    have hopened := (queueOnly_unlockedByTime s).state
    rw [unlockByTime_eq, (boothOnly_settle _).tracks, (boothOnly_roleUnlock _ (by rw [hopened]; exact hr)).tracks,
      hopened]
  | keyed s =>
    exact hs.step rfl rfl (fun _ hb => boothAtReset_out hb rfl hb.beeps hb.drawn hb.flash hb.beep hb.light) (fun _ => id)
  | swept on s =>
    refine hs.step rfl rfl (fun _ hb => ?_) (fun _ => id)
    cases on with
    | true => exact boothAtReset_out hb rfl hb.beeps hb.drawn rfl hb.beep hb.light
    | false => exact boothAtReset_out hb rfl hb.beeps hb.drawn hb.flash hb.beep hb.light
  | answerExpiry slot s =>
    have hbooth := boothOnly_takeAnswerExpiry slot s
    refine hs.step hbooth.straps hbooth.deskLog (fun _ hb => ?_) (fun _ => tracksEmpty_congr hbooth.tracks)
    rw [takeAnswerExpiry_of_empty slot hb.entries]
    exact hb
  | peerLost a p s =>
    have hview := boothOnly_viewPeerLost a p (s.updatePeer a (fun x => { x with present := false }))
    have hlost := recorderOnly_reservationsPeerLost a
      (viewPeerLost a (claimsPeerLost p (s.updatePeer a (fun x => { x with present := false }))))
    have hsettled : BoothOnly _ (losePeer a p s) := boothOnly_settle _
    refine hs.step (referenceKept_losePeer a p s).straps ?_ (fun hr hb => boothAtReset_losePeer a p hb hr)
      (fun _ hempty => tracksEmpty_congr hsettled.tracks ?_)
    · rw [hsettled.deskLog, hlost.state]
      exact hview.deskLog
    · rw [reservationsPeerLost_of_tracksEmpty a (tracksEmpty_congr hview.tracks hempty)]
      exact tracksEmpty_congr hview.tracks hempty
  | booth h hr _ =>
    have hbooth := boothOnly_of_boothAct h
    exact hs.step hbooth.straps hbooth.deskLog (fun hnot _ => absurd hr hnot) (fun _ => tracksEmpty_congr hbooth.tracks)
  | recorder h hr _ =>
    refine hs.step h.straps (by rw [h.state]) (fun _ => boothAtReset_of_recorderOnly h) (fun hnot _ => ?_)
    rw [hr] at hnot
    cases hnot
  | note source m s hr _ =>
    refine ⟨fun hnot => ?_, hs.recorder, fun hnot => absurd hr hnot⟩
    obtain ⟨he, hc, hl, hj, hn, hcl, hg, hb, hd, hf, hp, hli⟩ := hs.booth hnot
    exact ⟨he, hc, hl, hj, hn, hcl, hg, hb, hd, hf, hp, hli⟩
  | abortSent room s _ =>
    refine hs.step (referenceKept_takeAbort room _).straps (deskLog_takeAbort room _) (fun hr hb => ?_) (fun hr => ?_)
    · exact boothAtReset_of_recorderOnly (recorderOnly_takeAbort room (s := dropAttempted s) hr)
        (boothAtReset_congr (s := s) hb rfl rfl rfl rfl rfl)
    · exact tracksEmpty_congr (boothOnly_takeAbort room (s := dropAttempted s) hr).tracks
  | trans _ _ ih ik => exact ik (ih hs)

/-- Settles O14, by what a command does: a role's blocks are moved under that role alone, and what reaches every role finds
them empty. -/
theorem stepKeepsAbsentBlocksAtReset : Obligations.StepKeepsAbsentBlocksAtReset := by
  intro s t hs hstep
  exact roleInv_iff.mpr (absentAtReset_of_effect (step_effect hstep) (roleInv_iff.mp hs))

end Sys2Proof.Machine
end

/-! ## LIGHT, BEEP and the bounds of the cue outputs (R74, R79, R82, R84, R85, R87): what the booth's blocks do to the
outputs, and what LIGHT and BEEP are read from -/

section
namespace Sys2Proof.Machine

open Sys2Proof.Safety

/-! ### What the booth's blocks leave of the outputs -/

/-- The sweep and the gate view are as they were, and entries have only left the drawn ones. -/
structure OutputsKept (s t : State) : Prop where
  sweep : t.out.sweep = s.out.sweep
  sweepCounter : t.out.sweepCounter = s.out.sweepCounter
  gateView : t.out.gateView = s.out.gateView
  drawn : t.out.drawn.Sublist s.out.drawn

namespace OutputsKept

theorem of_out {s t : State} (h : t.out = s.out) : OutputsKept s t := by
  constructor <;> rw [h]

theorem refl (s : State) : OutputsKept s s := of_out rfl

theorem trans {s t u : State} (h : OutputsKept s t) (k : OutputsKept t u) : OutputsKept s u :=
  ⟨k.sweep.trans h.sweep, k.sweepCounter.trans h.sweepCounter, k.gateView.trans h.gateView, k.drawn.trans h.drawn⟩

theorem of_recorderOnly {s t : State} (h : RecorderOnly s t) : OutputsKept s t := of_out h.out

theorem of_queueOnly {s t : State} (h : QueueOnly s t) : OutputsKept s t := of_recorderOnly (.of_queueOnly h)

/-- What each step of a list does, the whole list does. -/
theorem foldl {α : Type} {f : State → α → State} (h : ∀ s x, OutputsKept s (f s x)) (l : List α) (s : State) :
    OutputsKept s (l.foldl f s) := by
  induction l generalizing s with
  | nil => exact refl s
  | cons x xs ih => exact (h s x).trans (ih (f s x))

end OutputsKept

theorem out_of_queueOnly {s t : State} (h : QueueOnly s t) : t.out = s.out := (RecorderOnly.of_queueOnly h).out

theorem out_give (dest : Addr) (m : Message) (s : State) : (s.give dest m).out = s.out :=
  out_of_queueOnly (queueOnly_give dest m s)

theorem out_updateCue (slot : Nat) (f : Cue → Cue) (s : State) : (s.updateCue slot f).out = s.out := by
  rw [updateCue_eq]

theorem out_releaseEntry (reason : ReleaseReason) (e : Entry) (s : State) : (releaseEntry reason e s).out = s.out := by
  unfold releaseEntry
  split
  · exact out_give _ _ s
  · rfl

theorem out_releaseClaim (reason : ReleaseReason) (slot : Nat) (s : State) :
    (releaseClaim reason slot s).out = s.out := by
  unfold releaseClaim
  split
  · split
    · exact out_releaseEntry _ _ s
    · rfl
  · rfl

theorem out_releaseLimit (slot : Nat) (s : State) : (releaseLimit slot s).out = s.out := by
  unfold releaseLimit
  split
  · split
    · exact out_releaseEntry _ _ s
    · rfl
  · rfl

theorem out_stopTake (e : Entry) (serial : Word16) (s : State) : (stopTake e serial s).out = s.out := by
  unfold stopTake
  split
  · exact (takeStops_closeTake _ _ _ _ s).out
  · exact (takeStops_unwindTake _ _ s).out

theorem out_abortTake (cause : TakeCause) (slot : Nat) (s : State) : (abortTake cause slot s).out = s.out := by
  unfold abortTake
  split
  · split
    · split
      · exact (out_releaseClaim _ _ _).trans (out_stopTake _ _ s)
      · exact out_stopTake _ _ s
    · rfl
  · rfl

theorem out_abortTakes (cause : TakeCause) (s : State) : (abortTakes cause s).out = s.out :=
  List.foldlRecOn _ (motive := fun t => t.out = s.out) _ rfl
    (fun t h slot _ => (out_abortTake cause slot t).trans h)

theorem out_punchInTake (slot : Nat) (s : State) : (punchInTake slot s).out = s.out := by
  have hlimit (f : Entry → Entry) : ((releaseLimit slot s).updateEntry slot f).out = s.out := out_releaseLimit slot s
  unfold punchInTake
  split
  · split_ifs
    · rfl
    · rfl
    · rfl
    · exact hlimit _
    · exact hlimit _
    · rw [startTake_eq]
  · rfl

theorem out_punchOutTake (slot : Nat) (s : State) : (punchOutTake slot s).out = s.out := by
  unfold punchOutTake
  split
  · split
    · exact (takeStops_closeTake _ _ _ _ s).out
    · rfl
  · rfl

theorem outputsKept_beepMark (slot mark : Nat) (s : State) : OutputsKept s (beepMark slot mark s) := by
  unfold beepMark
  split
  · split
    · exact .refl s
    · exact ⟨rfl, rfl, rfl, .refl _⟩
  · exact .refl s

theorem outputsKept_removeEntry (slot : Nat) (s : State) : OutputsKept s (removeEntry slot s) :=
  ⟨rfl, rfl, rfl, List.filter_sublist⟩

/-- A claim given back and its entry removed (R54, R62, R67, R70). -/
theorem outputsKept_released (reason : ReleaseReason) (slot : Nat) (s : State) :
    OutputsKept s (removeEntry slot (releaseClaim reason slot s)) :=
  (OutputsKept.of_out (out_releaseClaim _ _ s)).trans (outputsKept_removeEntry _ _)

theorem outputsKept_recompute (s : State) : OutputsKept s (recompute s) := by
  have hreform : OutputsKept s (reform s) :=
    ((OutputsKept.of_out (s := s) (t := refreshKeys s) rfl).trans
      (.foldl (fun t slot => outputsKept_released .evict slot t) _ _)).trans
      (.foldl (fun t slot => .of_out (out_createEntry slot t)) _ _)
  unfold recompute
  split
  · exact hreform
  · exact .refl s

theorem out_rebuildEntry (slot : Nat) (s : State) : (rebuildEntry slot s).out = s.out := by
  unfold rebuildEntry
  split
  · split
    · exact out_newClaim _ _
    · rfl
  · rfl

theorem outputsKept_rebuild (s : State) : OutputsKept s (rebuild s) := by
  have hbeeps : OutputsKept (recompute s) { recompute s with out := { (recompute s).out with beeps := [] } } :=
    ⟨rfl, rfl, rfl, .refl _⟩
  exact (((outputsKept_recompute s).trans hbeeps).trans
    (.foldl (fun t slot => .of_out (out_rebuildEntry slot t)) _ _)).trans (.of_out rfl)

theorem outputsKept_markAction (slot pos : Nat) (k : MarkKind) (s : State) :
    OutputsKept s (markAction slot pos k s) := by
  cases k with
  | windowOpen | streamerStart | cueOut => exact .refl s
  | beep3 | beep2 | beep1 => exact outputsKept_beepMark _ _ s
  | punchIn => exact .of_out (out_punchInTake _ s)
  | cueIn => exact ⟨rfl, rfl, rfl, .refl _⟩
  | punchOut => exact (OutputsKept.of_out (out_punchOutTake _ s)).trans (outputsKept_released .done _ _)

theorem outputsKept_takeMark (o j slot : Nat) (k : MarkKind) (s : State) : OutputsKept s (takeMark o j slot k s) := by
  unfold takeMark
  split
  · split
    · split
      · exact (OutputsKept.of_out (s := s) (t := s.updateEntry slot (Entry.cross k)) rfl).trans
          (outputsKept_markAction _ _ _ _)
      · exact .refl s
    · exact .refl s
  · exact .refl s

theorem outputsKept_takeMarks (o : Nat) (d : Int) (s : State) : OutputsKept s (takeMarks o d s) := by
  have hat (j : Nat) (slots : List Nat) (u : State) : OutputsKept u (takeMarksAt o j slots u) :=
    .foldl (fun t slot => .foldl (fun v k => outputsKept_takeMark o j slot k v) allMarks t) slots u
  unfold takeMarks
  split
  · exact (hat _ _ s).trans (hat _ _ _)
  · exact hat _ _ s

theorem outputsKept_lookaheadBoundary (r : Report) (s : State) : OutputsKept s (lookaheadBoundary r s) := by
  have hmade (u : State) : OutputsKept u (setPhases (recompute u)) := (outputsKept_recompute u).trans (.of_out rfl)
  unfold lookaheadBoundary
  split
  · split
    · exact outputsKept_rebuild s
    · split
      · exact (outputsKept_takeMarks _ _ s).trans (hmade _)
      · exact hmade s
  · exact .refl s

theorem out_transportAbort (r : Report) (s : State) : (transportAbort r s).out = s.out := by
  unfold transportAbort
  split
  · exact out_abortTakes _ s
  · rfl

theorem out_markOffSpeed (s : State) : (markOffSpeed s).out = s.out := by
  unfold markOffSpeed
  split <;> rfl

theorem outputsKept_ageBeeps (r : Report) (s : State) : OutputsKept s (ageBeeps r s) := by
  unfold ageBeeps
  split
  · exact ⟨rfl, rfl, rfl, .refl _⟩
  · exact .refl s

/-- The blocks of a role at a boundary report (R22, R58, R83, R134). -/
theorem outputsKept_roleBoundary (r : Report) (s : State) : OutputsKept s (roleBoundary r s) := by
  unfold roleBoundary boothBoundary
  split
  · exact ((OutputsKept.of_out ((out_transportAbort r _).trans (out_markOffSpeed s))).trans
      (outputsKept_lookaheadBoundary r _)).trans (outputsKept_ageBeeps r _)
  · split
    · exact .of_recorderOnly (recorderOnly_reservationBoundary r s)
    · exact .refl s

theorem out_roleUnlock (r : Report) (s : State) : (roleUnlock r s).out = s.out := by
  unfold roleUnlock
  split
  · exact out_transportAbort r s
  · split
    · exact ((recorderOnly_protect r s).trans (recorderOnly_evaluateTracks _)).out
    · rfl

/-- An ABORT of the room: the takes, the entries, the messages, the lookahead (R66). -/
theorem outputsKept_abortLookahead (s : State) : OutputsKept s (abortLookahead s) := by
  have hdown (slot : Nat) (u : State) : OutputsKept u (standDown slot u) :=
    (OutputsKept.of_out (out_releaseClaim .abort slot u)).trans ⟨rfl, rfl, rfl, .refl _⟩
  exact (((OutputsKept.of_out (out_abortTakes .roomAbort s)).trans (.foldl (fun t slot => hdown slot t) _ _)).trans
    (.of_queueOnly (queueOnly_orderUrgent _ _ _))).trans (outputsKept_recompute _)

theorem outputsKept_deselectEntries (range : Nat × Nat) (s : State) : OutputsKept s (deselectEntries range s) :=
  .foldl (fun t slot =>
    (OutputsKept.of_out (out_abortTake .deselect slot t)).trans (outputsKept_released .evict slot _)) _ s

theorem out_emptyForMuted (s : State) : (emptyForMuted s).out = s.out := out_abortTakes .muted s

theorem out_takeAnswer (m : AnswerMsg) (s : State) : (takeAnswer m s).out = s.out := by
  have hgrant (e : Entry) : (grantEntry m e s).out = s.out := by
    cases hc : e.claim <;> simp only [grantEntry, hc]
    case released => exact out_give _ _ s
    all_goals
      split
      · exact out_releaseEntry _ _ s
      · rfl
  have hdeny (r : DenyReason) (e : Entry) : (denyEntry r e s).out = s.out := by
    cases hc : e.claim <;> simp only [denyEntry, hc] <;> rfl
  unfold takeAnswer
  split
  · exact hgrant _
  · exact hdeny _ _
  · exact out_give _ _ s
  · rfl

theorem out_answerExpired (e : Entry) (s : State) : (answerExpired e s).out = s.out := by
  unfold answerExpired
  split
  · rfl
  · split
    · exact out_give _ _ _
    · rfl

theorem out_markTake (m : MarkMsg) (s : State) : (markTake m s).1.out = s.out := by
  unfold markTake
  split
  · rfl
  · split
    · rfl
    · exact out_updateCue _ _ _

theorem out_claimsPeerLost (p : Peer) (s : State) : (claimsPeerLost p s).out = s.out := by
  unfold claimsPeerLost
  split
  · split <;> rfl
  · rfl

/-! ### What LIGHT and BEEP are read from (R82, R84) -/

/-- The straps, the station state, transport and position, the outputs, and the entries but for their claims are as they
were. -/
structure LevelsKept (s t : State) : Prop where
  straps : t.straps = s.straps
  state : t.station.state = s.station.state
  transport : t.ref.transport = s.ref.transport
  position : t.ref.position = s.ref.position
  out : t.out = s.out
  entries : t.entries.map Entry.unclaimed = s.entries.map Entry.unclaimed

theorem LevelsKept.of_lineOnly {s t : State} (h : LineOnly s t) : LevelsKept s t :=
  ⟨h.straps, h.state, h.transport, h.position, h.out, by rw [h.entries]⟩

theorem LevelsKept.of_recorderOnly {s t : State} (h : RecorderOnly s t) : LevelsKept s t :=
  ⟨h.straps, by rw [h.station], by rw [h.ref], by rw [h.ref], h.out, by rw [h.entries]⟩

theorem LevelsKept.of_boothOnly {s t : State} (h : BoothOnly s t) (hout : t.out = s.out)
    (hentries : t.entries.map Entry.unclaimed = s.entries.map Entry.unclaimed) : LevelsKept s t :=
  ⟨h.straps, by rw [h.station], by rw [h.ref], by rw [h.ref], hout, hentries⟩

/-- A property of an entry that its claim has no part in, looked for among entries that differ in their claims. -/
theorem any_of_unclaimed {f : Entry → Bool} (hf : ∀ e, f e.unclaimed = f e) {es fs : List Entry}
    (h : es.map Entry.unclaimed = fs.map Entry.unclaimed) : es.any f = fs.any f := by
  have hread (l : List Entry) : l.any f = (l.map Entry.unclaimed).any f := by
    simp [List.any_map, Function.comp_def, hf]
  rw [hread, h, ← hread]

theorem lightLevel_of_levelsKept {s t : State} (h : LevelsKept s t) : t.lightLevel = s.lightLevel := by
  have hcueing := any_of_unclaimed (f := Entry.cueing) (fun _ => rfl) h.entries
  have hstandby := any_of_unclaimed (f := Entry.onStandby) (fun _ => rfl) h.entries
  simp only [State.lightLevel, State.activeBooth, State.active, h.straps, h.state, h.transport, h.out, hcueing, hstandby]
  rfl

theorem beepLevel_of_levelsKept {s t : State} (h : LevelsKept s t) : t.beepLevel = s.beepLevel := by
  simp only [State.beepLevel, State.activeBooth, State.active, State.day, h.straps, h.state, h.transport, h.position,
    h.out]

/-! ### The outputs in their bounds, and judged -/

/-- The invariants of the cue outputs: their bounds, and LIGHT and BEEP as the state gives them. -/
def OutputsJudged (s : State) : Prop := OutInv s ∧ LevelInv s

theorem outInv_of_kept {s t : State} (h : OutputsKept s t) (hs : OutInv s) : OutInv t := by
  obtain ⟨hdrawn, hcounter, hlength, hnodup⟩ := hs
  refine ⟨h.drawn.length_le.trans hdrawn, ?_, ?_, ?_⟩
  · rw [h.sweepCounter]
    exact hcounter
  · rw [h.gateView]
    exact hlength
  · rw [h.gateView]
    exact hnodup

theorem outputsJudged_of_levelsKept {s t : State} (h : LevelsKept s t) (hs : OutputsJudged s) : OutputsJudged t := by
  obtain ⟨hout, hlight, hbeep⟩ := hs
  refine ⟨outInv_of_kept (.of_out h.out) hout, ?_, ?_⟩
  · rw [lightLevel_of_levelsKept h, h.out, hlight]
  · rw [beepLevel_of_levelsKept h, h.out, hbeep]

theorem length_nearestTwo_le (s : State) : s.nearestTwo.length ≤ 2 := by
  rw [State.nearestTwo, List.length_map]
  exact List.length_take_le _ _

/-- What an event between boundaries leaves of the drawn entries (R73, R74). -/
theorem drawn_settle_cases (s : State) : s.settle.out.drawn = [] ∨ s.settle.out.drawn = s.nearestTwo ∨
    s.settle.out.drawn.Sublist s.out.drawn := by
  unfold State.settle State.redraw
  split
  · split
    · exact .inr (.inl rfl)
    · exact .inr (.inr List.filter_sublist)
  · exact .inl rfl

theorem levelInv_settle (s : State) : LevelInv s.settle :=
  ⟨congrArg (fun u => u.out.light) (eq_of_settle (s := s) rfl),
    congrArg (fun u => u.out.beep) (eq_of_settle (s := s) rfl)⟩

/-- Once the outputs are settled they are judged, and as much in bounds as they were (R74, R82, R84, R85). -/
theorem outputsJudged_settle {s : State} (hs : OutInv s) : OutputsJudged s.settle := by
  have hsettled := eq_of_settle (s := s) rfl
  obtain ⟨hdrawn, hcounter, hlength, hnodup⟩ := hs
  refine ⟨⟨?_, ?_, ?_, ?_⟩, levelInv_settle s⟩
  · rcases drawn_settle_cases s with h | h | h
    · simp [h]
    · rw [h]
      exact length_nearestTwo_le s
    · exact h.length_le.trans hdrawn
  all_goals
    rw [hsettled]
    assumption

theorem outputsJudged_settleBoundary {s : State} (hs : OutInv s) : OutputsJudged s.settleBoundary :=
  outputsJudged_settle (s := { s with out := { s.out with resumed := true } }) hs

/-! ### The room gate view (R87 to R89) -/

theorem nodup_addPair {pair : Addr × Byte} {view : List (Addr × Byte)} (h : view.Nodup) : (addPair pair view).Nodup := by
  unfold addPair
  split_ifs with hmem hroom
  · exact h
  · refine List.nodup_append.mpr ⟨h, List.nodup_singleton _, ?_⟩
    simp only [List.any_eq_true, beq_iff_eq, not_exists, not_and] at hmem
    intro x hx y hy hxy
    exact hmem x hx (hxy.trans (List.mem_singleton.mp hy))
  · exact h

theorem length_addPair_le {pair : Addr × Byte} {view : List (Addr × Byte)} (h : view.length ≤ 16) :
    (addPair pair view).length ≤ 16 := by
  unfold addPair
  split_ifs with _ hroom
  · exact h
  · simpa using hroom
  · exact h

/-- A GATE adds a pair, removes one, or leaves the view (R87, R88). -/
theorem viewAfterGate_cases (room : BitVec 2) (source : Addr) (m : GateMsg) (view : List (Addr × Byte)) :
    viewAfterGate room source m view = view ∨ viewAfterGate room source m view = addPair (source, m.track) view ∨
      viewAfterGate room source m view = dropPair (source, m.track) view := by
  unfold viewAfterGate
  split
  · exact .inl rfl
  · split
    · split
      · exact .inr (.inl rfl)
      · exact .inr (.inr rfl)
    · exact .inr (.inr rfl)
    · exact .inr (.inr rfl)

theorem outInv_filterView {s : State} (hs : OutInv s) (f : Addr × Byte → Bool) :
    OutInv { s with out := { s.out with gateView := s.out.gateView.filter f } } := by
  obtain ⟨hdrawn, hcounter, hlength, hnodup⟩ := hs
  exact ⟨hdrawn, hcounter, (List.length_filter_le _ _).trans hlength, hnodup.filter _⟩

theorem outInv_gateToView (source : Addr) (m : GateMsg) {s : State} (hs : OutInv s) : OutInv (gateToView source m s) := by
  unfold gateToView
  rcases viewAfterGate_cases s.straps.room source m s.out.gateView with h | h | h <;> rw [h]
  · exact hs
  · obtain ⟨hdrawn, hcounter, hlength, hnodup⟩ := hs
    exact ⟨hdrawn, hcounter, length_addPair_le hlength, nodup_addPair hnodup⟩
  · exact outInv_filterView hs _

theorem out_gateEvidence (m : GateMsg) (s : State) : (gateEvidence m s).out = s.out := by
  unfold gateEvidence
  split
  · split <;> rfl
  · rfl

/-! ### Every operation -/

/-- A change of the table: the lookahead recomputes, and the outputs are settled (R52). -/
theorem outputsJudged_tableChanged {s : State} (hs : OutInv s) : OutputsJudged (tableChanged s) :=
  outputsJudged_settle (outInv_of_kept (outputsKept_recompute s) hs)

theorem levelsKept_giveReply (dest : Addr) (r : ReplyMsg) (s : State) : LevelsKept s (giveReply dest r s) :=
  .of_lineOnly (.of_queueOnly (queueOnly_give _ _ s))

theorem outInv_giveReply {dest : Addr} {r : ReplyMsg} {s : State} (hs : OutInv s) : OutInv (giveReply dest r s) :=
  outInv_of_kept (.of_out (out_give _ _ s)) hs

theorem outputsJudged_abortBooth (room : AbortRoom) {s : State} (hs : OutputsJudged s) :
    OutputsJudged (abortBooth room s) := by
  unfold abortBooth
  split
  · exact outputsJudged_settle (outInv_of_kept (outputsKept_abortLookahead s) hs.1)
  · exact hs

theorem outputsJudged_takeAbort (room : AbortRoom) {s : State} (hs : OutputsJudged s) :
    OutputsJudged (takeAbort room s) := by
  have hbooth : OutputsJudged (inBooth (abortBooth room) s) := by
    unfold inBooth
    split
    · exact outputsJudged_abortBooth room hs
    · exact hs
  unfold takeAbort inRecorder
  split
  · exact outputsJudged_of_levelsKept (.of_recorderOnly (recorderOnly_abortReservations room _)) hbooth
  · exact hbooth

/-- A message to a booth's blocks leaves the outputs judged. -/
theorem outputsJudged_of_boothAct {s t : State} (h : BoothAct s t) (hs : OutputsJudged s) : OutputsJudged t := by
  have hreply (dest : Addr) (r : ReplyMsg) : OutputsJudged (giveReply dest r s) :=
    outputsJudged_of_levelsKept (levelsKept_giveReply dest r s) hs
  have hbooth := boothOnly_of_boothAct h
  cases h with
  | answer m =>
    exact outputsJudged_of_levelsKept (.of_boothOnly hbooth (out_takeAnswer m s) (takesKept_takeAnswer m s).entries) hs
  | gate source m =>
    exact outputsJudged_settle (outInv_of_kept (.of_out (out_gateEvidence m _)) (outInv_gateToView source m hs.1))
  | abort room => exact outputsJudged_abortBooth room hs
  | load source m =>
    unfold takeLoad
    split
    · exact outputsJudged_tableChanged (outInv_giveReply (s := s.setCue _ _) hs.1)
    · exact hreply _ _
  | clear source m =>
    unfold takeClear
    split
    · split
      · exact hreply _ _
      · exact outputsJudged_tableChanged (outInv_giveReply (s := s.changeRange _ _) hs.1)
    · exact hreply _ _
  | selectOn source m =>
    unfold takeSelectOn
    split
    · exact outputsJudged_tableChanged (outInv_giveReply (s := s.changeRange _ _) hs.1)
    · exact hreply _ _
  | selectOff source m =>
    unfold takeSelectOff
    split
    · exact outputsJudged_tableChanged
        (outInv_giveReply (outInv_of_kept (outputsKept_deselectEntries _ (s.changeRange _ _)) hs.1))
    · exact hreply _ _
  | mark source m =>
    refine outputsJudged_of_levelsKept (.of_boothOnly hbooth ((out_give _ _ _).trans (out_markTake m s)) ?_) hs
    have hentries : (markTake m s).1.entries = s.entries := by
      unfold markTake
      split
      · rfl
      · split
        · rfl
        · rw [updateCue_eq]
          rfl
    exact (takesKept_give _ _ _).entries.trans (by rw [hentries])

theorem outputsJudged_enterMuted {s : State} (hs : OutInv s) : OutputsJudged (enterMuted s) := by
  have hout : (emptyForMuted { s with station := mutedStation s.station }).out = s.out := out_emptyForMuted _
  obtain ⟨-, hcounter, hlength, hnodup⟩ := hs
  rw [← hout] at hcounter hlength hnodup
  exact ⟨⟨Nat.zero_le _, hcounter, hlength, hnodup⟩, rfl, rfl⟩

theorem outputsJudged_resetEngine {s : State} (hs : OutInv s) : OutputsJudged (resetEngine s) := by
  obtain ⟨-, hcounter, hlength, hnodup⟩ := hs
  obtain ⟨-, -, hview, -⟩ := engineEmptied_idle s
  rw [← hview] at hlength hnodup
  exact outputsJudged_settle (outInv_of_kept (outputsKept_recompute _)
    ⟨Nat.zero_le _, Nat.zero_le _, hlength, hnodup⟩)

theorem outputsJudged_frameBoundary (accepted : Bool) {s : State} (hs : OutInv s) :
    OutputsJudged (frameBoundary accepted s) := by
  have hopened : OutInv (s.opened accepted) := by
    refine outInv_of_kept (.of_queueOnly (queueOnly_opened accepted s)) ?_
    obtain ⟨hdrawn, hcounter, hlength, hnodup⟩ := hs
    refine ⟨hdrawn, ?_, hlength, hnodup⟩
    show (if s.out.sweep then (s.out.sweepCounter + 1) % 48 else s.out.sweepCounter) ≤ 47
    split <;> omega
  exact outputsJudged_settleBoundary (outInv_of_kept (outputsKept_roleBoundary _ _) hopened)

theorem outputsJudged_unlockByTime {s : State} (hs : OutInv s) : OutputsJudged (unlockByTime s) := by
  have hopened : s.unlockedByTime.out = s.out :=
    out_of_queueOnly (s := { s with ref := enterUnlocked s.ref }) (queueOnly_unlockedByTime s)
  exact outputsJudged_settle (outInv_of_kept (.of_out ((out_roleUnlock _ _).trans hopened)) hs)

theorem outputsJudged_losePeer (a : Addr) (p : Peer) {s : State} (hs : OutInv s) : OutputsJudged (losePeer a p s) := by
  have hclaims : OutInv (claimsPeerLost p (s.updatePeer a (fun x => { x with present := false }))) :=
    outInv_of_kept (.of_out (out_claimsPeerLost p _)) hs
  exact outputsJudged_settle (outInv_of_kept (.of_recorderOnly (recorderOnly_reservationsPeerLost a _))
    (outInv_filterView hclaims _))

theorem outputsJudged_enterActive {s : State} (hs : OutInv s) : OutputsJudged (enterActive s) := by
  have hgiven := out_of_queueOnly (queueOnly_giveBeacon { s with station := { s.station with state := .active } })
  refine outputsJudged_settle (outInv_of_kept (s := s) (.of_out ?_) hs)
  rw [setBeaconTimer_eq]
  exact hgiven

theorem outputsJudged_takeAnswerExpiry (slot : Nat) {s : State} (hs : OutputsJudged s) :
    OutputsJudged (takeAnswerExpiry slot s) := by
  have hexpired (e : Entry) : LevelsKept s (answerExpired e s) :=
    .of_boothOnly (boothOnly_answerExpired e s) (out_answerExpired e s) (takesKept_answerExpired e s).entries
  unfold takeAnswerExpiry
  split
  · split
    · exact outputsJudged_of_levelsKept (hexpired _) hs
    · exact hs
  · exact hs

/-- What a command does leaves the outputs in their bounds and judged. -/
theorem outputsJudged_of_effect {s t : State} (h : Effect s t) (hs : OutputsJudged s) : OutputsJudged t := by
  induction h with
  | kept h => exact outputsJudged_of_levelsKept (.of_lineOnly h.toLineOnly) hs
  | line h _ => exact outputsJudged_of_levelsKept (.of_lineOnly h) hs
  | fresh k s => exact ⟨by simp [OutInv, freshState, State.reset], levelInv_freshState k s⟩
  | muted s => exact outputsJudged_enterMuted hs.1
  | engine s => exact outputsJudged_resetEngine hs.1
  | joined s _ => exact outputsJudged_settle hs.1
  | activated s => exact outputsJudged_enterActive hs.1
  | ticked s =>
    have hticked : LevelsKept s (ticked s) := ⟨rfl, rfl, rfl, rfl, rfl, (takesKept_ticked s).entries⟩
    exact outputsJudged_of_levelsKept hticked hs
  | boundary accepted s => exact outputsJudged_frameBoundary accepted hs.1
  | unlocked s => exact outputsJudged_unlockByTime hs.1
  | keyed s => exact hs
  | swept on s =>
    obtain ⟨⟨hdrawn, hcounter, hlength, hnodup⟩, hlevels⟩ := hs
    cases on with
    | true =>
      refine ⟨⟨hdrawn, ?_, hlength, hnodup⟩, hlevels⟩
      show (if s.out.sweep then s.out.sweepCounter else 0) ≤ 47
      split <;> omega
    | false => exact ⟨⟨hdrawn, hcounter, hlength, hnodup⟩, hlevels⟩
  | answerExpiry slot s => exact outputsJudged_takeAnswerExpiry slot hs
  | peerLost a p s => exact outputsJudged_losePeer a p hs.1
  | booth h _ _ => exact outputsJudged_of_boothAct h hs
  | recorder h _ _ => exact outputsJudged_of_levelsKept (.of_recorderOnly h) hs
  | note source m s _ _ => exact outputsJudged_of_levelsKept ⟨rfl, rfl, rfl, rfl, rfl, rfl⟩ hs
  | abortSent room s _ => exact outputsJudged_takeAbort room (s := dropAttempted s) hs
  | trans _ _ ih ik => exact ik (ih hs)

/-- Settles O9, by what a command does: whatever moves the inputs of LIGHT and BEEP settles the outputs afterwards. -/
theorem stepKeepsCueOutputsJudged : Obligations.StepKeepsCueOutputsJudged :=
  fun _ _ hout hlevels hstep => outputsJudged_of_effect (step_effect hstep) ⟨hout, hlevels⟩

end Sys2Proof.Machine
end

/-! ## GATE at a booth: the view, the evidence of a take, the light (R85, R87, R88, R98) -/

section
namespace Sys2Proof.Machine

open Sys2Proof.Safety

theorem settle_gateView (s : State) : s.settle.out.gateView = s.out.gateView :=
  congrArg (fun u => u.out.gateView) (eq_of_settle (s := s) rfl)

theorem settle_entries (s : State) : s.settle.entries = s.entries := by
  rw [eq_of_settle (s := s) rfl]

theorem addPair_eq (pair : Addr × Byte) (view : List (Addr × Byte)) :
    addPair pair view = if pair ∈ view ∨ 16 ≤ view.length then view else view ++ [pair] := by
  by_cases hmem : pair ∈ view
  · simp [addPair, hmem]
  · by_cases hroom : view.length < 16
    · simp [addPair, hmem, hroom, Nat.not_le.mpr hroom]
    · simp [addPair, hmem, hroom, Nat.le_of_not_lt hroom]

theorem addPair_ne_nil (pair : Addr × Byte) (view : List (Addr × Byte)) : addPair pair view ≠ [] := by
  rw [addPair_eq]
  split
  · next h =>
    rintro rfl
    simp at h
  · simp

/-- A GATE OPEN of the own room. -/
theorem viewAfterGate_of_opened {room : BitVec 2} {m : GateMsg} (ht : m.track.toNat < 16) (he : m.event = .opened)
    (hr : m.room = room.zeroExtend 8) (source : Addr) (view : List (Addr × Byte)) :
    viewAfterGate room source m view = addPair (source, m.track) view := by
  simp [viewAfterGate, Nat.not_le.mpr ht, he, hr]

/-- Any other GATE of a global track. -/
theorem viewAfterGate_of_other {room : BitVec 2} {m : GateMsg} (ht : m.track.toNat < 16)
    (h : m.event ≠ .opened ∨ m.room ≠ room.zeroExtend 8) (source : Addr) (view : List (Addr × Byte)) :
    viewAfterGate room source m view = dropPair (source, m.track) view := by
  unfold viewAfterGate
  rw [if_neg (Nat.not_le.mpr ht)]
  split
  · next he => rw [if_neg (h.resolve_left (absurd he))]
  · rfl
  · rfl

theorem gateEvidence_eq (m : GateMsg) (s : State) :
    gateEvidence m s = { s with entries := (gateEvidence m s).entries } := by
  unfold gateEvidence
  split
  · split <;> rfl
  · rfl

/-- A GATE that names no claim of this station is no evidence. -/
theorem gateEvidence_of_unnamed {m : GateMsg} {s : State}
    (h : m.claimant ≠ s.straps.address.zeroExtend 8 ∨ matchedEntry m.track m.claimNo s = none) :
    gateEvidence m s = s := by
  unfold gateEvidence
  rcases h with h | h
  · rw [if_neg h]
  · rw [h]
    split <;> rfl

theorem gateEvidence_of_named {m : GateMsg} {s : State} {e : Entry} (hc : m.claimant = s.straps.address.zeroExtend 8)
    (he : matchedEntry m.track m.claimNo s = some e) :
    gateEvidence m s = s.updateEntry e.slot (Entry.evidence m.event) := by
  rw [gateEvidence, if_pos hc, he]

/-- A booth after a GATE, before the outputs are settled: the view has moved, then the evidence. -/
def gated (source : Addr) (m : GateMsg) (s : State) : State := gateEvidence m (gateToView source m (judged s))

theorem exec_gate_booth {h : FrameHead} {m : GateMsg} {s : State} (hh : handed h (.gate m) s)
    (hr : s.straps.role = .booth) : exec (.gate h m) s = .next (gated h.source m s).settle := by
  show Host.Outcome.next (takeFrame h (.gate m) (inBooth (takeGate h.source m)) s) = _
  rw [takeFrame_of_handed hh, inBooth, if_pos (show (judged s).straps.role = .booth from hr)]
  rfl

theorem gated_eq (source : Addr) (m : GateMsg) (s : State) :
    gated source m s = { judged s with
      entries := (gated source m s).entries
      out := { s.out with gateView := viewAfterGate s.straps.room source m s.out.gateView } } :=
  gateEvidence_eq m _

theorem gated_settle_gateView (source : Addr) (m : GateMsg) (s : State) :
    (gated source m s).settle.out.gateView = viewAfterGate s.straps.room source m s.out.gateView := by
  rw [settle_gateView, gated_eq]

/-- A pair in the view turns the light of an ACTIVE booth to QUIET (R85). -/
theorem lightLevel_of_gateView {s : State} (hb : s.activeBooth = true) (hv : s.out.gateView ≠ []) :
    s.lightLevel = .quiet := by
  rw [State.lightLevel, hb, List.isEmpty_eq_false_iff.mpr hv]
  rfl

/-- Settles O52: the view and the evidence are what the GATE makes of them, and what settles the outputs afterwards reads
them. -/
theorem gateMovesTheViewAndTheEvidence : Obligations.GateMovesTheViewAndTheEvidence := by
  intro h m s hh hr
  have hview := gated_settle_gateView h.source m s
  refine ⟨(gated h.source m s).settle, exec_gate_booth hh hr, ?_, fun ht he hroom => ⟨?_, ?_⟩, fun ht hother => ?_,
    fun hunnamed => ?_, fun e hclaimant he => ?_⟩
  · have hsettled := eq_of_settle (s := gated h.source m s) rfl
    have hentries := settle_entries (gated h.source m s)
    have hgated := gated_eq h.source m s
    generalize (gated h.source m s).settle = t at hsettled hentries hview ⊢
    rw [← hentries, ← hview] at hgated
    rw [hgated] at hsettled
    exact hsettled
  · rw [hview, viewAfterGate_of_opened ht he hroom, addPair_eq]
  · have hbooth : (gated h.source m s).settle.activeBooth = true := by
      rw [activeBooth_congr (boothOnly_settle _).straps (boothOnly_settle _).station, gated_eq]
      simp [State.activeBooth, State.active, judged, State.withReceiver, hr, hh.2.2]
    obtain ⟨hlight, -⟩ := levelInv_settle (gated h.source m s)
    refine hlight.trans (lightLevel_of_gateView hbooth ?_)
    rw [hview, viewAfterGate_of_opened ht he hroom]
    exact addPair_ne_nil _ _
  · rw [hview, viewAfterGate_of_other ht hother, dropPair]
  · rw [settle_entries, gated, gateEvidence_of_unnamed (s := gateToView h.source m (judged s)) hunnamed]
    rfl
  · rw [settle_entries, gated, gateEvidence_of_named (s := gateToView h.source m (judged s)) hclaimant he,
      updateEntry_eq]
    rfl

end Sys2Proof.Machine
end

/-! ## The outputs at a frame boundary: the entries nearest to their cue-in, and what opens with the frame (R73, R74, R78,
R79, R82 to R85) -/

section
namespace Sys2Proof.Machine

open Sys2Proof.Safety

/-! ### The entries nearest to their cue-in (R74) -/

theorem insertNearest_perm (x : Nat × Nat) (l : List (Nat × Nat)) : (insertNearest x l).Perm (x :: l) := by
  induction l with
  | nil => exact .refl _
  | cons y ys ih =>
    unfold insertNearest
    split
    · exact .refl _
    · exact (ih.cons y).trans (.swap x y ys)

theorem insertNearest_sorted {x : Nat × Nat} {l : List (Nat × Nat)} (h : l.Pairwise (fun a b => a.1 ≤ b.1)) :
    (insertNearest x l).Pairwise (fun a b => a.1 ≤ b.1) := by
  induction l with
  | nil => exact List.pairwise_singleton _ _
  | cons y ys ih =>
    obtain ⟨hy, hys⟩ := List.pairwise_cons.mp h
    unfold insertNearest
    split
    · next hlt =>
      refine List.pairwise_cons.mpr ⟨fun z hz => ?_, h⟩
      rcases List.mem_cons.mp hz with rfl | hz
      · exact hlt.le
      · exact hlt.le.trans (hy z hz)
    · next hge =>
      refine List.pairwise_cons.mpr ⟨fun z hz => ?_, ih hys⟩
      rcases List.mem_cons.mp ((insertNearest_perm x ys).mem_iff.mp hz) with rfl | hz
      · exact Nat.le_of_not_lt hge
      · exact hy z hz

/-- The entries that are drawn from (R74). -/
def State.streaming (s : State) : List Entry := s.entries.filter (fun e => e.phase == .streaming)

/-- An entry's distance to its cue-in, with its slot. -/
def State.nearness (s : State) (e : Entry) : Nat × Nat := (fwd s.day s.ref.position e.marks.cueIn, e.slot)

theorem mem_streaming {s : State} {e : Entry} : e ∈ s.streaming ↔ e ∈ s.entries ∧ e.phase = .streaming := by
  simp [State.streaming]

/-- The eligible entries are those of STREAMING phase. -/
theorem eligible_perm (s : State) : s.eligible.Perm (s.streaming.map s.nearness) := by
  have hfold (l : List Entry) (acc : List (Nat × Nat)) :
      (l.foldl (fun acc e => insertNearest (s.nearness e) acc) acc).Perm (acc ++ l.map s.nearness) := by
    induction l generalizing acc with
    | nil => simp
    | cons e l ih => exact (ih _).trans (((insertNearest_perm _ acc).append_right _).trans List.perm_middle.symm)
  exact hfold s.streaming []

/-- They stand in the order of their distances. -/
theorem eligible_sorted (s : State) : s.eligible.Pairwise (fun a b => a.1 ≤ b.1) :=
  List.foldlRecOn _ (motive := fun l : List (Nat × Nat) => l.Pairwise (fun a b => a.1 ≤ b.1)) _ .nil
    (fun _ h _ _ => insertNearest_sorted h)

theorem length_nearestTwo (s : State) : s.nearestTwo.length = min 2 s.streaming.length := by
  rw [State.nearestTwo, List.length_map, List.length_take, (eligible_perm s).length_eq, List.length_map]

theorem nodup_nearestTwo {s : State} (h : (s.entries.map Entry.slot).Nodup) : s.nearestTwo.Nodup := by
  have hslots : (s.streaming.map Entry.slot).Nodup := h.sublist (List.filter_sublist.map _)
  have heligible : (s.eligible.map Prod.snd).Nodup := by
    rw [((eligible_perm s).map Prod.snd).nodup_iff, List.map_map]
    exact hslots
  exact heligible.sublist ((List.take_sublist 2 _).map _)

/-- A drawn entry is of STREAMING phase, and no such entry that is not drawn is nearer to its cue-in. -/
theorem nearest_of_mem_nearestTwo {s : State} {slot : Nat} (h : slot ∈ s.nearestTwo) :
    ∃ e ∈ s.entries, e.slot = slot ∧ e.phase = .streaming ∧
      ∀ x ∈ s.entries, x.phase = .streaming → x.slot ∉ s.nearestTwo →
        fwd s.day s.ref.position e.marks.cueIn ≤ fwd s.day s.ref.position x.marks.cueIn := by
  obtain ⟨p, hp, rfl⟩ := List.mem_map.mp h
  obtain ⟨e, he, rfl⟩ := List.mem_map.mp ((eligible_perm s).mem_iff.mp (List.mem_of_mem_take hp))
  obtain ⟨hmem, hphase⟩ := mem_streaming.mp he
  refine ⟨e, hmem, rfl, hphase, fun x hx hxphase hxslot => ?_⟩
  have hxeligible : s.nearness x ∈ s.eligible.take 2 ++ s.eligible.drop 2 := by
    rw [List.take_append_drop, (eligible_perm s).mem_iff]
    exact List.mem_map_of_mem (mem_streaming.mpr ⟨hx, hxphase⟩)
  have hxbehind : s.nearness x ∈ s.eligible.drop 2 :=
    (List.mem_append.mp hxeligible).resolve_left (fun htake => hxslot (List.mem_map_of_mem htake))
  have hsorted := eligible_sorted s
  rw [← List.take_append_drop 2 s.eligible] at hsorted
  obtain ⟨-, -, hacross⟩ := List.pairwise_append.mp hsorted
  exact hacross _ hp _ hxbehind

/-! ### The outputs settled at a boundary -/

theorem settle_keyingPermitted (s : State) : s.settle.keyingPermitted = s.keyingPermitted := by
  rw [eq_of_settle (s := s) rfl]
  rfl

theorem settle_nearestTwo (s : State) : s.settle.nearestTwo = s.nearestTwo := by
  rw [eq_of_settle (s := s) rfl]
  rfl

/-- Where keying is permitted a boundary lets drawing resume, with the nearest two. -/
theorem settleBoundary_of_permitted {s : State} (h : s.keyingPermitted = true) :
    s.settleBoundary.out.resumed = true ∧ s.settleBoundary.out.drawn = s.nearestTwo := by
  have hopen : State.keyingPermitted { s with out := { s.out with resumed := true } } = true := h
  simp only [State.settleBoundary, State.settle, State.redraw, hopen, if_true]
  exact ⟨rfl, rfl⟩

/-- Where it is not, nothing is drawn and no flash is left. -/
theorem settleBoundary_of_notPermitted {s : State} (h : s.keyingPermitted = false) :
    s.settleBoundary.out.resumed = false ∧ s.settleBoundary.out.drawn = [] ∧ s.settleBoundary.out.flash = false := by
  have hshut : State.keyingPermitted { s with out := { s.out with resumed := true } } = false := h
  simp only [State.settleBoundary, State.settle, State.redraw, hshut, Bool.false_eq_true, if_false]
  exact ⟨rfl, rfl, rfl⟩

theorem settleBoundary_keyingPermitted (s : State) : s.settleBoundary.keyingPermitted = s.keyingPermitted :=
  settle_keyingPermitted _

theorem settleBoundary_nearestTwo (s : State) : s.settleBoundary.nearestTwo = s.nearestTwo := settle_nearestTwo _

theorem settleBoundary_beeps (s : State) : s.settleBoundary.out.beeps = s.out.beeps :=
  congrArg (fun u => u.out.beeps) (eq_of_settle (s := { s with out := { s.out with resumed := true } }) rfl)

theorem settleBoundary_sweep (s : State) : s.settleBoundary.out.sweep = s.out.sweep ∧
    s.settleBoundary.out.sweepCounter = s.out.sweepCounter ∧ s.settleBoundary.out.gateView = s.out.gateView := by
  rw [State.settleBoundary, eq_of_settle (s := { s with out := { s.out with resumed := true } }) rfl]
  exact ⟨rfl, rfl, rfl⟩

theorem out_opened (accepted : Bool) (s : State) : (s.opened accepted).out = newFrameOutputs s.out :=
  out_of_queueOnly (queueOnly_opened accepted s)

/-- A boundary counts the sweep and keeps the view (R79, R87). -/
theorem frameBoundary_sweep (accepted : Bool) (s : State) :
    (frameBoundary accepted s).out.sweep = s.out.sweep ∧
      (frameBoundary accepted s).out.sweepCounter =
        (if s.out.sweep then (s.out.sweepCounter + 1) % 48 else s.out.sweepCounter) ∧
      (frameBoundary accepted s).out.gateView = s.out.gateView := by
  obtain ⟨hsweep, hcounter, hview, -⟩ := outputsKept_roleBoundary (boundaryReport accepted s) (s.opened accepted)
  obtain ⟨hsweep', hcounter', hview'⟩ :=
    settleBoundary_sweep (roleBoundary (boundaryReport accepted s) (s.opened accepted))
  rw [out_opened] at hsweep hcounter hview
  exact ⟨hsweep'.trans hsweep, hcounter'.trans hcounter, hview'.trans hview⟩

theorem frameBoundary_of_permitted (accepted : Bool) (s : State)
    (h : (frameBoundary accepted s).keyingPermitted = true) :
    (frameBoundary accepted s).out.resumed = true ∧
      (frameBoundary accepted s).out.drawn = (frameBoundary accepted s).nearestTwo := by
  rw [frameBoundary_eq] at h ⊢
  rw [settleBoundary_keyingPermitted] at h
  rw [settleBoundary_nearestTwo]
  exact settleBoundary_of_permitted h

theorem frameBoundary_of_notPermitted (accepted : Bool) (s : State)
    (h : (frameBoundary accepted s).keyingPermitted = false) :
    (frameBoundary accepted s).out.resumed = false ∧ (frameBoundary accepted s).out.drawn = [] ∧
      (frameBoundary accepted s).out.flash = false := by
  rw [frameBoundary_eq] at h ⊢
  rw [settleBoundary_keyingPermitted] at h
  exact settleBoundary_of_notPermitted h

/-- In PLAY or VARI a boundary leaves a booth the beep intervals that cover the position (R83). -/
theorem frameBoundary_beeps {accepted : Bool} {s : State} (hb : s.activeBooth = true)
    (hr : rolling (s.refAfter accepted).transport = true) {b : BeepInterval}
    (h : b ∈ (frameBoundary accepted s).out.beeps) : b.coversPos s.day (s.refAfter accepted).position = true := by
  have hopened : (s.opened accepted).activeBooth = true := by
    rw [(queueOnly_opened accepted s).state]
    exact hb
  have hbefore := ((boothOnly_markOffSpeed (s.opened accepted)).trans (boothOnly_transportAbort
    (boundaryReport accepted s) _)).trans (boothOnly_lookaheadBoundary (boundaryReport accepted s) _)
  have hrolling : rolling (boundaryReport accepted s).transport = true := hr
  rw [frameBoundary_eq, settleBoundary_beeps, roleBoundary, if_pos hopened, boothBoundary, ageBeeps, if_pos hrolling,
    agedBeeps, State.day, hbefore.straps, (queueOnly_opened accepted s).state] at h
  exact (List.mem_filter.mp h).2

theorem fixKeyed_eq (s : State) : s.fixKeyed = { s with out := { s.out with keyed := s.fixKeyed.out.keyed } } := rfl

/-- A boundary is the boundary of a state that holds this one's blocks, with the keyed columns of the line where a line
pulse has brought it. -/
theorem exec_boundary {c : Instr} {s t : State} (hc : boundary c s) (he : exec c s = .next t) :
    ∃ accepted u, BlocksKept s u ∧
      t = { frameBoundary accepted u with out := { (frameBoundary accepted u).out with keyed := t.out.keyed } } := by
  rcases hc with ⟨withLine, rfl, hin⟩ | ⟨rfl, hdue⟩
  · obtain rfl := Host.Outcome.next.inj he
    have hp : s.pulseAccepted = true := decide_eq_true hin
    refine ⟨true, s, .refl s, ?_⟩
    simp only [takeFramePulse, hp, if_true]
  · obtain rfl := Host.Outcome.next.inj he
    refine ⟨false, raiseLine s, blocksKept_raiseLine s, ?_⟩
    rw [countLine_of_due hdue, fixKeyed_eq]

theorem frameBoundary_levels (accepted : Bool) (s : State) : LevelInv (frameBoundary accepted s) :=
  levelInv_settle _

/-- Settles O35: the reports reach the outputs through what the booth's blocks keep of them, and the last of the boundary
settles them. -/
theorem boundaryOpensTheOutputsOfItsFrame : Obligations.BoundaryOpensTheOutputsOfItsFrame := by
  intro c s t hc he
  obtain ⟨accepted, u, hu, ht⟩ := exec_boundary hc he
  obtain ⟨hsweep, hcounter, hview⟩ := frameBoundary_sweep accepted u
  rw [hu.out] at hsweep hcounter hview
  obtain ⟨hlight, hbeep⟩ := frameBoundary_levels accepted u
  have hshut := frameBoundary_of_notPermitted accepted u
  have hopen := frameBoundary_of_permitted accepted u
  have hday : u.day = s.day := by rw [State.day, hu.straps, State.day]
  have hactive : u.activeBooth = s.activeBooth := by simp only [State.activeBooth, hu.straps, hu.active]
  have hbeeps := frameBoundary_beeps (accepted := accepted) (s := u)
  rw [hactive, hday, ← frameBoundary_ref] at hbeeps
  have htime : (frameBoundary accepted u).day = s.day := by
    rw [State.day, (reportOnly_frameBoundary accepted u).straps]
    exact hday
  generalize frameBoundary accepted u = v at *
  rw [ht]
  refine ⟨hsweep, hcounter, hview, ?_, hbeep, hlight, fun h => (hshut h).2, fun h hslots => ?_,
    fun hb hr b => hbeeps hb hr⟩
  · show v.out.resumed = v.keyingPermitted
    cases h : v.keyingPermitted with
    | true => exact (hopen h).1
    | false => exact (hshut h).1
  · have hdrawn : v.out.drawn = v.nearestTwo := (hopen h).2
    show v.out.drawn.length = min 2 v.streaming.length ∧ v.out.drawn.Nodup ∧ ∀ slot ∈ v.out.drawn, _
    rw [hdrawn, ← htime]
    exact ⟨length_nearestTwo v, nodup_nearestTwo hslots, fun slot => nearest_of_mem_nearestTwo⟩

end Sys2Proof.Machine
end

/-! ## KEY: the columns keyed on a raster line (R71 to R80) -/

section
namespace Sys2Proof.Machine

open Sys2Proof.Safety

/-- The pixel clocks of a line before its first column: sync and back porch (R71). -/
def porchOf (p : Profile) : Nat := hsyncOf p + hbackOf p

theorem widthOf_pos (p : Profile) : 0 < widthOf p := by cases p <;> decide

/-- A line of Htotal pixel clocks is its sync, its back porch, its columns and Hfront. -/
theorem porchOf_add_widthOf (p : Profile) : porchOf p + widthOf p + hfrontOf p = htotalOf p := by cases p <;> decide

theorem sweepColumn_eq (p : Profile) (counter : Nat) : sweepColumn p counter = counter * (widthOf p / 48) := by
  cases p <;> simp only [sweepColumn, barColumn, widthOf] <;> omega

/-- The frames since a bar of L frames began (R75). -/
theorem fwd_back {p : Profile} {cueIn position L : Nat} (hc : cueIn < dayOf p) (hp : position < dayOf p) (hL : L < 256) :
    fwd (dayOf p) (back (dayOf p) cueIn L) position = (position + L + dayOf p - cueIn) % dayOf p := by
  cases p <;> simp only [fwd, back, dayOf] at * <;> omega

/-- A bar is inside the line while it has run for less than its frames (R75). -/
theorem barColumn_lt {W L f sub : Nat} (hW : 0 < W) (hf : f < L) (hsub : sub < 256) :
    barColumn W L (f * 256 + sub) < W := by
  have hsteps : f * 256 + sub < L * 256 := by omega
  exact Nat.div_lt_of_lt_mul (Nat.mul_lt_mul_of_pos_right hsteps hW)

theorem subTerm_lt (s : State) : s.subTerm < 256 := by
  unfold State.subTerm
  split
  · exact Nat.lt_succ_of_le (subFrame_le s)
  · decide

theorem barRange_snd_le (p : Profile) (x : Nat) : (barRange p x).2 ≤ widthOf p := Nat.min_le_right _ _

theorem columnOf_eq {s : State} {slot : Nat} {c : Cue} (hc : s.cueAt slot = some c) (sub : Nat) (hin : c.cueIn < s.day)
    (hp : s.ref.position < s.day) :
    s.columnOf sub slot = barColumn (widthOf s.straps.profile) c.streamer.toNat
      ((s.ref.position + c.streamer.toNat + s.day - c.cueIn) % s.day * 256 + sub) := by
  unfold State.columnOf
  rw [hc]
  simp only [State.day] at hin hp ⊢
  rw [fwd_back hin hp c.streamer.isLt]

/-- The columns of the drawn entries' bars (R74 to R76). -/
def State.bars (s : State) : List (Nat × Nat) :=
  s.out.drawn.map (fun slot => barRange s.straps.profile (s.columnOf s.subTerm slot))

theorem keyAt_iff (clock : PixelClock) (s : State) : s.keyAt clock = true ↔
    ∃ r ∈ s.out.keyed, ∃ column, r.1 ≤ column ∧ column < r.2 ∧ clock = .running (porchOf s.straps.profile + column) := by
  cases clock with
  | stopped => simp [State.keyAt]
  | running since =>
    simp only [State.keyAt, porchOf, List.any_eq_true, decide_eq_true_eq, PixelClock.running.injEq]
    refine exists_congr fun r => and_congr_right fun _ => ⟨fun ⟨hfrom, hto⟩ => ?_, ?_⟩
    · exact ⟨since - (hsyncOf s.straps.profile + hbackOf s.straps.profile), by omega, by omega, by omega⟩
    · rintro ⟨column, hfrom, hto, rfl⟩
      omega

theorem keyingPermitted_iff (s : State) : s.keyingPermitted = true ↔
    s.straps.role = .booth ∧ s.station.state = .active ∧ (s.ref.lock = .locked ∨ s.ref.lock = .holdover) ∧
      (s.ref.transport = .play ∨ s.ref.transport = .vari ∨ s.ref.transport = .stopped) := by
  simp only [State.keyingPermitted, State.activeBooth, State.active, lockHolds, settled, rolling, Bool.and_eq_true,
    Bool.or_eq_true, beq_iff_eq]
  tauto

section sources

variable {s : State}

theorem keyedRanges_of_inactiveLine (h : s.rasterLine < firstActiveOf s.straps.profile ∨
    lastActiveOf s.straps.profile < s.rasterLine) : s.keyedRanges = [] :=
  keyedRanges_of_not_lineActive (decide_eq_false (by omega))

theorem keyedRanges_of_sweep (hl : s.lineActive = true) (h : s.out.sweep = true) :
    s.keyedRanges = [barRange s.straps.profile (sweepColumn s.straps.profile s.out.sweepCounter)] := by
  simp [State.keyedRanges, hl, h]

theorem keyedRanges_of_notPermitted (h : s.out.sweep = false) (hp : s.keyingPermitted = false) :
    s.keyedRanges = [] := by
  simp [State.keyedRanges, h, hp]

theorem keyedRanges_of_flash (hl : s.lineActive = true) (h : s.out.sweep = false) (hp : s.keyingPermitted = true)
    (hf : s.out.flash = true) : s.keyedRanges = [(0, widthOf s.straps.profile)] := by
  simp [State.keyedRanges, hl, h, hp, hf]

theorem keyedRanges_of_notResumed (h : s.out.sweep = false) (hf : s.out.flash = false)
    (hr : s.out.resumed = false) : s.keyedRanges = [] := by
  simp [State.keyedRanges, h, hf, hr]

theorem keyedRanges_of_bars (hl : s.lineActive = true) (h : s.out.sweep = false) (hp : s.keyingPermitted = true)
    (hf : s.out.flash = false) (hr : s.out.resumed = true) : s.keyedRanges = s.bars := by
  simp [State.keyedRanges, State.bars, hl, h, hp, hf, hr]

end sources

/-- No keyed column lies outside the line. -/
theorem keyedRanges_le {s : State} {r : Nat × Nat} (h : r ∈ s.keyedRanges) : r.2 ≤ widthOf s.straps.profile := by
  unfold State.keyedRanges at h
  split_ifs at h
  · rw [List.mem_singleton.mp h]
    exact barRange_snd_le _ _
  · rw [List.mem_singleton.mp h]
  · obtain ⟨slot, -, rfl⟩ := List.mem_map.mp h
    exact barRange_snd_le _ _
  · cases h
  · cases h

/-- A line pulse fixes the keyed columns (R72). -/
theorem countLine_keyed (s : State) : (countLine s).out.keyed = (countLine s).keyedRanges := by
  have hfixed (u : State) : u.fixKeyed.out.keyed = u.fixKeyed.keyedRanges := rfl
  exact hfixed _

/-- Settles O34: the first source that applies, by the lemmas on each; the columns of a bar by those of its streamer. -/
theorem keyedColumnsFollowTheirSource : Obligations.KeyedColumnsFollowTheirSource := by
  intro s
  refine ⟨firstActiveOf s.straps.profile, lastActiveOf s.straps.profile, widthOf s.straps.profile,
    barWidthOf s.straps.profile, porchOf s.straps.profile, widthOf s.straps.profile / 48, hfrontOf s.straps.profile,
    htotalOf s.straps.profile, ?_, ⟨rfl, rfl, porchOf_add_widthOf _⟩, ⟨_, rfl, countLine_keyed s⟩,
    fun clock => keyAt_iff clock s, fun r => keyedRanges_le, keyedRanges_of_inactiveLine, fun hfirst hlast => ?_,
    keyingPermitted_iff s⟩
  · generalize s.straps.profile = p
    cases p <;> decide
  · have hline : s.lineActive = true := decide_eq_true ⟨hfirst, hlast⟩
    refine ⟨fun h => ?_, keyedRanges_of_notPermitted, keyedRanges_of_flash hline,
      fun h _ hf hr => keyedRanges_of_notResumed h hf hr, fun h hp hf hr => ?_⟩
    · rw [keyedRanges_of_sweep hline h, sweepColumn_eq]
      rfl
    · rw [keyedRanges_of_bars hline h hp hf hr]
      refine ⟨List.length_map _, ?_⟩
      rintro i slot c L e x hslot hc rfl hin hposition rfl rfl
      have hcolumn := columnOf_eq hc s.subTerm hin hposition
      refine ⟨?_, fun hrun => barColumn_lt (sub := s.subTerm) (widthOf_pos _) hrun (subTerm_lt s)⟩
      rw [State.bars, List.getElem?_map, hslot, Option.map_some, hcolumn]
      rfl

end Sys2Proof.Machine
end

/-! ## STATUS: the record as its fields, one after another (R90, R181, R196) -/

section
namespace Sys2Proof.Machine

open Sys2Proof.Safety

/-! ### A field of bytes that stand one after another -/

/-- What stands at a field's offset is the field. -/
theorem slice_flatten {α : Type} {fields : List (List α)} {widths : List Nat} (hw : fields.map List.length = widths)
    (i : Nat) {field : List α} (h : fields[i]? = some field) :
    (fields.flatten.drop (widths.take i).sum).take (widths.getD i 0) = field := by
  subst hw
  induction fields generalizing i with
  | nil => cases h
  | cons first fields ih =>
    cases i with
    | zero =>
      obtain rfl := Option.some.inj h
      simp
    | succ i => simpa [List.drop_length_add_append] using ih i h

theorem getElem?_of_slice {α : Type} {l : List α} {n : Nat} {x : α} (h : (l.drop n).take 1 = [x]) : l[n]? = some x := by
  have hhead := congrArg List.head? h
  rwa [List.head?_take, if_neg Nat.one_ne_zero, List.head?_drop] at hhead

/-! ### Bytes -/

theorem length_padTo (n : Nat) (bs : List Byte) : (padTo n bs).length = n := by
  simp only [padTo, List.length_append, List.length_take, List.length_replicate]
  omega

/-- A field of a fixed length, cut after its zeros. -/
theorem padTo_eq (n : Nat) (bs : List Byte) : padTo n bs = (bs ++ List.replicate n 0#8).take n := by
  rw [padTo, List.take_append, List.take_replicate, Nat.min_eq_left (Nat.sub_le _ _)]

theorem word16_bytes16 (x : Word16) : word16 (x.extractLsb' 8 8) (x.extractLsb' 0 8) = x := by
  unfold word16
  rw [BitVec.extractLsb'_append_extractLsb'_eq_extractLsb' (by decide)]
  simp

theorem bytes16_injective {x y : Word16} (h : bytes16 x = bytes16 y) : x = y := by
  obtain ⟨hhigh, hlow⟩ : x.extractLsb' 8 8 = y.extractLsb' 8 8 ∧ x.extractLsb' 0 8 = y.extractLsb' 0 8 := by
    simpa [bytes16] using h
  rw [← word16_bytes16 x, ← word16_bytes16 y, hhigh, hlow]

theorem pairByte_eq (pair : Addr × Byte) : pairByte pair = byte (16 * pair.1.toNat + pair.2.toNat % 16) := by
  apply BitVec.eq_of_toNat_eq
  have hlow : pair.2.toNat % 16 < 2 ^ 4 := Nat.mod_lt _ (by decide)
  have haddr := pair.1.isLt
  rw [pairByte, BitVec.toNat_append, BitVec.extractLsb'_toNat, Nat.shiftRight_zero, byte, BitVec.toNat_ofNat,
    ← Nat.shiftLeft_add_eq_or_of_lt hlow, Nat.shiftLeft_eq]
  omega

/-! ### The flag word (R195) -/

/-- The sticky flags are the low 13 bits, INBOX_READY is bit 13. -/
theorem getLsbD_flags {i : Nat} (hi : i < 16) (s : State) : (s.flags.zeroExtend 16).getLsbD i =
    if i < 13 then s.port.sticky.getLsbD i else decide (i - 13 = 0) && s.inboxReady := by
  rw [BitVec.getLsbD_setWidth, State.flags, BitVec.getLsbD_append, BitVec.getLsbD_ofBool, decide_eq_true hi,
    Bool.true_and]

theorem flagBit_lt (flag : Flag) : flagBit flag < 13 := by cases flag <;> decide

/-! ### The record -/

/-- The fields of the status record, in the order of their offsets (R196). -/
def State.statusFields (s : State) : List (List Byte) :=
  [[s.straps.address.zeroExtend 8, roleCode s.straps.role, s.straps.room.zeroExtend 8,
      byte (profileCode s.straps.profile), byteBool s.straps.hold, stateCode s.station.state],
    bytesNat16 s.runningTimer, [lockCode s.ref.lock, transportCode s.ref.transport], bytesCount s.ref.position,
    labelBytes (labelOfCount s.straps.profile s.ref.position), bytes16 (s.flags.zeroExtend 16),
    bytes16 (s.port.mask.zeroExtend 16), [byteBool s.attn],
    bytesNat16 s.line.hdrFixed ++ bytesNat16 s.line.hdrBad ++ bytesNat16 s.line.crcBad ++
      bytesNat16 s.line.collisions ++ bytesNat16 s.line.sendFail,
    [byte s.line.queue.length, byte s.line.inbox.length, s.claimCounter], bytes16 s.takes.serial, [byte s.logCount],
    [byte s.running.length], padTo 4 s.runningSerials, [byte s.entries.length],
    padTo 20 (s.entries.flatMap Entry.summary),
    [lightCode s.out.light, byteBool s.out.beep, byte s.out.beeps.length, byteBool s.out.sweep,
      byte s.out.sweepCounter, byteBool s.out.flash, byte s.out.drawn.length],
    padTo 6 (s.out.drawn.flatMap (fun slot => s.drawnBytes slot)), [byte s.out.gateView.length],
    padTo 16 (s.out.gateView.map pairByte), s.statusTracks]

/-- Their lengths. -/
def statusWidths : List Nat := [6, 2, 2, 3, 4, 2, 2, 1, 10, 3, 2, 1, 1, 4, 1, 20, 7, 6, 1, 16, 8]

theorem statusRecord_eq (s : State) : s.statusRecord = s.statusFields.flatten := by
  simp [State.statusRecord, State.statusFields, State.statusStation, State.statusReference, State.statusLine,
    State.statusTakes, State.statusLookahead, State.statusOutputs]

theorem length_statusTracks (s : State) : s.statusTracks.length = 8 := by
  unfold State.statusTracks
  split
  · exact length_padTo _ _
  · rfl

theorem statusFields_length (s : State) : s.statusFields.map List.length = statusWidths := by
  simp [State.statusFields, statusWidths, length_padTo, length_statusTracks, bytesNat16, bytes16, bytesCount, bytes24,
    labelBytes]

/-- What stands in the record at a field's offset. -/
theorem statusRecord_slice (s : State) (i : Nat) {field : List Byte} (h : s.statusFields[i]? = some field) :
    (s.statusRecord.drop (statusWidths.take i).sum).take (statusWidths.getD i 0) = field := by
  rw [statusRecord_eq]
  exact slice_flatten (statusFields_length s) i h

theorem length_statusRecord (s : State) : s.statusRecord.length = 102 := by
  rw [statusRecord_eq, List.length_flatten, statusFields_length]
  rfl

theorem runningTimer_eq (s : State) : s.runningTimer =
    if s.station.state = .joining then s.station.joinTimer
    else if s.station.state = .active then s.station.beaconTimer else 0 := by
  cases h : s.station.state <;> simp [State.runningTimer, h]

theorem statusTracks_eq (s : State) : s.statusTracks =
    if isRecorder s.straps.role then (s.tracks.map Track.statusByte ++ List.replicate 8 0#8).take 8
    else List.replicate 8 0#8 := by
  rw [State.statusTracks, padTo_eq]

/-- Settles O22: the record is its fields one after another, and a field's offset is the sum of the lengths before it. -/
theorem statusAnswersTheStatusRecord : Obligations.StatusAnswersTheStatusRecord := by
  intro s
  have hfield (i : Nat) {field : List Byte} := statusRecord_slice s i (field := field)
  refine ⟨s.statusRecord, rfl, length_statusRecord s, hfield 0 rfl, ?_, hfield 2 rfl, hfield 3 rfl, hfield 4 rfl, ?_,
    hfield 6 rfl, getElem?_of_slice (hfield 7 rfl), hfield 8 rfl, hfield 9 rfl, hfield 10 rfl,
    getElem?_of_slice (hfield 11 rfl), getElem?_of_slice (hfield 12 rfl), (hfield 13 rfl).trans (padTo_eq _ _),
    getElem?_of_slice (hfield 14 rfl), (hfield 15 rfl).trans (padTo_eq _ _), hfield 16 rfl,
    (hfield 17 rfl).trans (padTo_eq _ _), getElem?_of_slice (hfield 18 rfl), ?_,
    (hfield 20 rfl).trans (statusTracks_eq s)⟩
  · rw [← runningTimer_eq]
    exact hfield 1 rfl
  · intro f hf
    obtain rfl := bytes16_injective ((hfield 5 rfl).symm.trans hf)
    refine ⟨getLsbD_flags (by decide) s, getLsbD_flags (by decide) s, getLsbD_flags (by decide) s, fun flag => ?_⟩
    have hbit := flagBit_lt flag
    rw [getLsbD_flags (by omega), if_pos hbit]
    rfl
  · refine (hfield 19 rfl).trans ?_
    rw [padTo_eq, funext pairByte_eq]

end Sys2Proof.Machine
end
